-- ==== Sys2Proof/Word.lean ====
section
/-! DEFINITION. The word types of the BC6: the byte and the wider fields of frames, records and the
configuration block (chapter 12), the station numbers and the zone numbers. -/

namespace Sys2Proof

/-- One byte of a frame, a part record or the configuration block (R196). -/
abbrev Byte := BitVec 8

/-- A two-byte field, sent high byte first (R196). -/
abbrev Half := BitVec 16

/-- A four-byte field, sent high byte first (R196). -/
abbrev Wide := BitVec 32

/-- A station number, 0 to 15 (00_scope.md, "Station numbers and the line"). -/
abbrev Station := Fin 16

/-- A platen zone number, 0 to 7; 0 to 3 upper platen, 4 to 7 lower platen (chapter 2). -/
abbrev ZoneId := Fin 8

end Sys2Proof
end

