-- ==== Sys2Proof/Machine/Bytes.lean ====
section
/-! DEFINITION. Bytes and checks: multi-byte numbers high byte first, two's complement signed numbers, and the
CRC-16 of the shop line and of the configuration block (R196). -/

namespace Sys2Proof.Machine

/-- The `k` low bytes of a number, high byte first (R196). -/
def beBytes : Nat → Nat → List Byte
  | 0, _ => []
  | k + 1, n => BitVec.ofNat 8 (n / 256 ^ k) :: beBytes k n

/-- The `k` bytes of a signed number in two's complement, high byte first (R196). -/
def beBytesInt (k : Nat) (x : Int) : List Byte := beBytes k (x % (256 ^ k : Nat)).toNat

/-- The number the bytes carry, high byte first (R196). -/
def beNat (bs : List Byte) : Nat := bs.foldl (fun n b => n * 256 + b.toNat) 0

/-- The signed number the bytes carry in two's complement, high byte first (R196). -/
def beInt (bs : List Byte) : Int :=
  if 2 * beNat bs < 256 ^ bs.length then (beNat bs : Int) else (beNat bs : Int) - (256 ^ bs.length : Nat)

/-- A two-byte field from its bytes. -/
def halfOf (hi lo : Byte) : Half := hi ++ lo

/-- A four-byte field from its bytes. -/
def wideOf (b3 b2 b1 b0 : Byte) : Wide := halfOf b3 b2 ++ halfOf b1 b0

/-- One incoming bit enters the CRC register: shift left, and combine 0x1021 if the register's top bit and the
incoming bit differ (R196). -/
def crcBit (r : BitVec 16) (b : Bool) : BitVec 16 :=
  if r.msb != b then (r <<< 1) ^^^ 0x1021#16 else r <<< 1

/-- One byte enters the CRC register, most significant bit first (R196). -/
def crcByte (r : BitVec 16) (b : Byte) : BitVec 16 :=
  [7, 6, 5, 4, 3, 2, 1, 0].foldl (fun r i => crcBit r (b.getLsbD i)) r

/-- The CRC register after the bytes, from the value `r`. -/
def crcFrom (r : BitVec 16) (bs : List Byte) : BitVec 16 := bs.foldl crcByte r

/-- The CRC-16 of the bytes: the register starts at all ones, with no final inversion (R157, R196). -/
def crc16 (bs : List Byte) : Half := crcFrom 0xFFFF#16 bs

end Sys2Proof.Machine
end

