-- ==== Sys2Proof/Syntax.lean ====
section
/-! DEFINITION. The commands of the BC6: one constructor for each row of spec/opcode_table.json. A command is
an event at one of the part's three points of reach (00_scope.md, "How the Part Is Reached"), or the expiry of
one of its timers, or a step of its own 10 ms, dose or control clock. The operands are what the event carries
from outside. Frames received from the line carry their source, their destination byte and their payload
fields as the bytes of chapter 12 hold them, so that a field may hold a value outside its codes. -/

namespace Sys2Proof

/-- What the write-back of the epoch meets on the configuration bus (R140, R194): whether the memory
acknowledged the write, and the epoch and CRC that were read back. -/
structure WriteBack where
  /-- the memory acknowledged the write -/
  ack : Bool
  /-- the epoch read back -/
  epoch : Half
  /-- the block CRC read back -/
  crc : Half
deriving DecidableEq, Repr

/-- How an own frame's echo failed (R162). -/
inductive EchoHeard where
  /-- the frame heard fails a check of R158, or no frame was formed (log 40) -/
  | damaged
  /-- the frame heard is intact, carries this source, and differs from the frame sent -/
  | differs (src : Station)
deriving DecidableEq, Repr

/-- The commands, one constructor for each row of the table, in the table's order. -/
inductive Instr where
  /-- POWER_ON (R195 steps 1 to 4). `straps`: the four strap pins; `read`: the bytes the configuration memory
  acknowledged, from byte 0 on; `wb`: what the epoch write-back met. -/
  | powerOn (straps : Station) (read : List Byte) (wb : WriteBack)
  /-- START_SEQUENCE_END (R195 step 5). -/
  | startSequenceEnd
  /-- CLOSE_REQ (R4): a rising edge of the CLOSE_REQ input. -/
  | closeReq
  /-- CLOSED_RISE (R6, R12). -/
  | closedRise
  /-- CLOSED_FALL (R12). -/
  | closedFall
  /-- OPENED_RISE (R10, R12). -/
  | openedRise
  /-- OPENED_FALL (R12). -/
  | openedFall
  /-- PART_CLEAR (R11): a rising edge of the PART_CLEAR input. -/
  | partClear
  /-- HOLD_INPUT_CHANGE (R13): the HOLD input takes the level `asserted`. -/
  | holdInputChange (asserted : Bool)
  /-- START (R175): a rising edge of the START input. -/
  | startInput
  /-- ACK (R187): a rising edge of the ACK input. -/
  | ackInput
  /-- CLEAR_INPUT (R21): a rising edge of the CLEAR input. -/
  | clearInput
  /-- TEMPERATURE_FRAME (R36): one frame of the temperature link; `linkOk`: it passes the link's own check;
  `reading` in 0.1 degC; `fault`: the sensor fault flag. -/
  | temperatureFrame (linkOk : Bool) (zone : ZoneId) (reading : Int) (fault : Bool)
  /-- SENSOR_LOSS (R38): the age of `zone` reaches tSENS. -/
  | sensorLoss (zone : ZoneId)
  /-- WINDOW_STEP (R44): one 10 ms step; bit z of `sense` is the current-sense input of zone z. -/
  | windowStep (sense : Byte)
  /-- LEAD_IN_END (R43): the lead-in count of `zone` runs out. -/
  | leadInEnd (zone : ZoneId)
  /-- WINDOW_END (R48): the end of a window of `zone`. -/
  | windowEnd (zone : ZoneId)
  /-- CONTROL_TICK (R40). -/
  | controlTick
  /-- DOSE_TICK (R7). -/
  | doseTick
  /-- CLOSE_TIMER_EXPIRY (R6). -/
  | closeTimerExpiry
  /-- OPEN_TIMER_EXPIRY (R10). -/
  | openTimerExpiry
  /-- HOLD_SECOND_TIMER (R17). -/
  | holdSecondTimer
  /-- SOAK_TIMER (R55). -/
  | soakTimer
  /-- WEIGH_FRAME (R60): one frame of the weigh link; `linkOk`: it passes the link's own check. -/
  | weighFrame (linkOk : Bool) (count : BitVec 24) (overrange : Bool)
  /-- WEIGH_LOSS_TIMER (R60). -/
  | weighLossTimer
  /-- LISTEN_TIMER (R102). -/
  | listenTimer
  /-- SHARE_TIMER (R100). -/
  | shareTimer
  /-- STARVE_TIMER (R98). -/
  | starveTimer
  /-- AGE_TIMER (R108) of the entry of station `peer`. -/
  | ageTimer (peer : Station)
  /-- HEAD_HOLD_TIMER (R126). -/
  | headHoldTimer
  /-- RE_ASK_TIMER (R129). -/
  | reAskTimer
  /-- WAKE_TIMER (R178). -/
  | wakeTimer
  /-- SHARE received (R109); `mode`, `cycle`, `ask` are payload bytes 6, 7 and 9, `flags` is byte 8. -/
  | rxShare (src : Station) (dst : Byte) (claim ceiling budget : Half) (mode cycle flags ask : Byte)
  /-- RAISE received (R110). -/
  | rxRaise (src : Station) (dst : Byte) (claim : Half)
  /-- LEAVE received (R112). -/
  | rxLeave (src : Station) (dst : Byte)
  /-- ASK received (R121). -/
  | rxAsk (src : Station) (dst : Byte) (ask : Byte)
  /-- DONE received (R122); bit 0 of `flags` is the withdraw flag. -/
  | rxDone (src : Station) (dst : Byte) (ask flags : Byte)
  /-- DROP received (R123). -/
  | rxDrop (src : Station) (dst : Byte) (holder ask : Byte)
  /-- PART received (R149). -/
  | rxPart (src : Station) (dst : Byte) (epoch : Half) (serial : Wide) (result : Byte)
  /-- HGET received (R150). -/
  | rxHget (src : Station) (dst : Byte) (selector : Byte) (serial : Wide)
  /-- HDATA received (R159); `piece` is payload byte 2. -/
  | rxHdata (src : Station) (dst : Byte) (serialLow : Half) (piece : Byte) (data : Vector Byte 9)
  /-- HTAKE received (R153). -/
  | rxHtake (src : Station) (dst : Byte) (serial : Wide)
  /-- HNONE received (R159). -/
  | rxHnone (src : Station) (dst : Byte) (reason : Byte)
  /-- HBUSY received (R159). -/
  | rxHbusy (src : Station) (dst : Byte)
  /-- WAKE received (R175). -/
  | rxWake (src : Station) (dst : Byte) (target : Byte)
  /-- REST received (R175). -/
  | rxRest (src : Station) (dst : Byte) (target : Byte)
  /-- HOLD received (R13). -/
  | rxHold (src : Station) (dst : Byte) (strength : Byte)
  /-- RELEASE received (R13). -/
  | rxRelease (src : Station) (dst : Byte)
  /-- CLEAR received (R21). -/
  | rxClear (src : Station) (dst : Byte)
  /-- SELECT received (R76). -/
  | rxSelect (src : Station) (dst : Byte) (recipe : Byte)
  /-- QUERY received (R171). -/
  | rxQuery (src : Station) (dst : Byte)
  /-- REPORT received (R159). -/
  | rxReport (src : Station) (dst : Byte) (payload : Vector Byte 12)
  /-- FORGET received (R113, R114); `number` is the station number carried. -/
  | rxForget (src : Station) (dst : Byte) (number : Byte)
  /-- ALERT received (R185). -/
  | rxAlert (src : Station) (dst : Byte) (kind : Byte)
  /-- TRIP received (R181). -/
  | rxTrip (src : Station) (dst : Byte) (cause zone : Byte)
  /-- ANSWER received (R159). -/
  | rxAnswer (src : Station) (dst : Byte) (kind outcome : Byte)
  /-- CONFLICT_FRAME (R116): an intact frame with the own source, heard while this station was not sending. -/
  | conflictFrame
  /-- LINE_ACTIVITY_FAILED (R158, R161); `formed`: the activity formed a frame, which failed the check or the
  form; otherwise it ended without forming one. -/
  | lineActivityFailed (formed : Bool)
  /-- ACCESS_SLOT (R160, R165): the first instant of slot `k` after the slot reference. -/
  | accessSlot (k : Nat)
  /-- ECHO_TAKEN (R162). -/
  | echoTaken
  /-- ECHO_FAILED (R162). -/
  | echoFailed (heard : EchoHeard)
  /-- HDATA_PIECE_OFFER (R151). -/
  | hdataPieceOffer
  /-- LINE_ACTIVITY_START (R160). -/
  | lineActivityStart
  /-- SUPPLY_LOSS (R195). -/
  | supplyLoss
deriving DecidableEq, Repr

end Sys2Proof
end

