-- ==== Sys2Proof/Decode.lean ====
section
/-! DEFINITION. Reading commands from what arrives. The opcode table gives no row any bits, so no table word
spells a command. The frames of the shop line do have a layout (R157, R158, R168, R196): the second part of this
file reads the bytes of one line activity as the command it makes at the part. -/

namespace Sys2Proof

open Machine (halfOf wideOf crc16)

/-- The command a word of the opcode table spells: none, since no row of the table has bits. -/
def decodeTableWord (_nbits _w : Nat) : Option Instr := none

/-- The four high bits of the first header byte, SRC (R196). -/
def headerSrc (b : Byte) : Station := ⟨b.toNat / 16, by have := b.isLt; omega⟩

/-- The four low bits of the first header byte, LEN (R196). -/
def headerLen (b : Byte) : Nat := b.toNat % 16

/-- The form check of R158 and the reading of the payload: the command of a frame whose CRC holds, by its kind, its
payload length and, for the notice kind, its form byte (R168, R196); none where no kind and form fit. -/
def frameCommand (src : Station) (dst kind : Byte) (payload : List Byte) : Option Instr :=
  match kind.toNat with
  | 1 =>
    match payload with
    | [c1, c0, e1, e0, b1, b0, mode, cycle, flags, ask] =>
      some (.rxShare src dst (halfOf c1 c0) (halfOf e1 e0) (halfOf b1 b0) mode cycle flags ask)
    | _ => none
  | 2 =>
    match payload with
    | [c1, c0] => some (.rxRaise src dst (halfOf c1 c0))
    | _ => none
  | 3 =>
    match payload with
    | [] => some (.rxLeave src dst)
    | _ => none
  | 4 =>
    match payload with
    | [ask] => some (.rxAsk src dst ask)
    | _ => none
  | 5 =>
    match payload with
    | [ask, flags] => some (.rxDone src dst ask flags)
    | _ => none
  | 6 =>
    match payload with
    | [holder, ask] => some (.rxDrop src dst holder ask)
    | _ => none
  | 7 =>
    match payload with
    | [e1, e0, s3, s2, s1, s0, result] => some (.rxPart src dst (halfOf e1 e0) (wideOf s3 s2 s1 s0) result)
    | _ => none
  | 8 =>
    match payload with
    | [selector, s3, s2, s1, s0] => some (.rxHget src dst selector (wideOf s3 s2 s1 s0))
    | _ => none
  | 9 =>
    match payload with
    | [s1, s0, piece, d0, d1, d2, d3, d4, d5, d6, d7, d8] =>
      some (.rxHdata src dst (halfOf s1 s0) piece #v[d0, d1, d2, d3, d4, d5, d6, d7, d8])
    | _ => none
  | 10 =>
    match payload with
    | [s3, s2, s1, s0] => some (.rxHtake src dst (wideOf s3 s2 s1 s0))
    | _ => none
  | 11 =>
    match payload with
    | [reason] => some (.rxHnone src dst reason)
    | _ => none
  | 12 =>
    match payload with
    | [] => some (.rxHbusy src dst)
    | _ => none
  | 13 =>
    match payload with
    | [target] => some (.rxWake src dst target)
    | _ => none
  | 14 =>
    match payload with
    | [target] => some (.rxRest src dst target)
    | _ => none
  | 15 =>
    match payload with
    | [strength] => some (.rxHold src dst strength)
    | _ => none
  | 16 =>
    match payload with
    | [] => some (.rxRelease src dst)
    | _ => none
  | 17 =>
    match payload with
    | [] => some (.rxClear src dst)
    | _ => none
  | 18 =>
    match payload with
    | [recipe] => some (.rxSelect src dst recipe)
    | _ => none
  | 19 =>
    match payload with
    | [] => some (.rxQuery src dst)
    | [p0, p1, p2, p3, p4, p5, p6, p7, p8, p9, p10, p11] =>
      some (.rxReport src dst #v[p0, p1, p2, p3, p4, p5, p6, p7, p8, p9, p10, p11])
    | _ => none
  | 20 =>
    match payload with
    | [number] => some (.rxForget src dst number)
    | _ => none
  | 21 =>
    match payload with
    | [form, kind] => if form = 0#8 then some (.rxAlert src dst kind) else none
    | [form, x, y] =>
      if form = 1#8 then some (.rxTrip src dst x y)
      else if form = 2#8 then some (.rxAnswer src dst x y)
      else none
    | _ => none
  | _ => none

/-- The bytes form a frame: a three-byte header, the LEN payload bytes it announces and a two-byte check (R196). DESIGN
CHOICE, unsafe (log 41): activity of more bytes than the frame its header announces forms none, and so is not counted as a
receive error. -/
def formsFrame (bytes : List Byte) : Bool :=
  match bytes with
  | b0 :: _ :: _ :: rest => decide (rest.length = headerLen b0 + 2)
  | _ => false

/-- The command of an intact frame, from its bytes: none where they form no frame or fail the CRC or the form
(R158). -/
def decodeFrame (bytes : List Byte) : Option Instr :=
  match bytes with
  | b0 :: dst :: kind :: rest =>
    if rest.length = headerLen b0 + 2 then
      if rest.drop (headerLen b0) = Machine.beBytes 2 (crc16 (b0 :: dst :: kind :: rest.take (headerLen b0))).toNat then
        frameCommand (headerSrc b0) dst kind (rest.take (headerLen b0))
      else none
    else none
  | _ => none

/-- The command that a line activity of other stations makes at its end: the frame's, where it is intact, and
LINE_ACTIVITY_FAILED otherwise (R158, R161). -/
def activityCommand (bytes : List Byte) : Instr :=
  (decodeFrame bytes).getD (.lineActivityFailed (formsFrame bytes))

end Sys2Proof
end

