-- ==== Sys2Proof/Config.lean ====
section
/-! DEFINITION. The fixed parameters of the part (00_scope.md, "Fixed Parameters"), the types of the
configuration block's fields as taken (R192, R199), and the values a station with a bad block runs by (R193).
The part has no other configuration. No value of the spec is left open by an instruction that goes on, so this
file declares no free value. Times are held in ms where a rule gives them in ms or s. -/

namespace Sys2Proof

/-- The station modes (R174). -/
inductive Mode where
  | cold | standby | run | tripped
deriving DecidableEq, Repr

/-- The history modes (R139, R192). -/
inductive HistoryMode where
  | strict | lenient
deriving DecidableEq, Repr

/-- Steps of a heater window (tWIN, 2.000 s of 10 ms steps). -/
def windowSteps : Nat := 200
/-- Control tick period, ms. -/
def tControl : Nat := 2000
/-- Dose tick period tDOSE, ms. -/
def tDose : Nat := 1000
/-- Periodic SHARE interval tSHARE, ms. -/
def tShare : Nat := 1000
/-- Age at which a peer becomes STALE, tSTALE, ms. -/
def tStale : Nat := 3000
/-- Listen period after power-on, tLISTEN, ms. -/
def tListen : Nat := 3000
/-- Blanked steps after each switching of an output (tBLANK, 50 ms). -/
def blankSteps : Nat := 5
/-- Temperature sensor loss time tSENS, ms. -/
def tSens : Nat := 1000
/-- Weigh link loss time tWEIGH, ms. -/
def tWeigh : Nat := 100
/-- Re-ask delay tASKR after a dropped ASK, ms. -/
def tAskr : Nat := 1000
/-- Starved time tSTARVE before STARVED attention, ms. -/
def tStarve : Nat := 60000
/-- Period of the hold-second timer and of the soak timer, ms (R5, R55). -/
def tSecond : Nat := 1000
/-- Entries of the transmit queue (R164). -/
def queueSize : Nat := 12
/-- Class 3 entries the transmit queue admits (R167). -/
def class3Limit : Nat := 5
/-- Slots of the part history store (R139). -/
def historySlots : Nat := 64
/-- The last serial of an epoch (R141). -/
def lastSerial : Nat := 4294967295
/-- Where the dose counts saturate (R24, R26). -/
def doseLimit : Nat := 4294967295
/-- Readings of the stability window (R63). -/
def stabilitySize : Nat := 16
/-- Plies of one charge (R65). -/
def plyLimit : Nat := 24
/-- Data bytes of one HDATA piece (R148). -/
def pieceBytes : Nat := 9
/-- Attempts after which an own frame is finally dropped (R162). -/
def attemptLimit : Nat := 3

/-- One recipe as taken from the block (R192, R199). Temperatures in 0.1 degC, masses in 0.1 g, times in s,
`tolPm` in tenths of a per cent. -/
structure Recipe where
  cureSp : Int
  tRef : Int
  dBase : Nat
  tMin : Nat
  tMax : Nat
  dOverMax : Nat
  mTgt : Nat
  tolPm : Nat
  plyMinCount : Nat
  plyMaxCount : Nat
  closeTimeout : Nat
  openTimeout : Nat
deriving DecidableEq, Repr

/-- The configuration of one zone (R32). -/
structure ZoneCfg where
  enabled : Bool
  power : Nat
  kp : Nat
  ki : Nat
deriving DecidableEq, Repr

/-- The configuration in force from the start sequence until power-on (R191 to R193). `good`: the block was
good; `bitRate` in kbit/s; `budget` in claim units; `tHold` in s; `wakeMinutes` in min. -/
structure Config where
  good : Bool
  bitRate : Nat
  budget : Nat
  zones : Vector ZoneCfg 8
  margin : Int
  tAbs : Int
  escalation : Nat
  standbySp : Int
  band : Int
  soak : Nat
  scaleZero : Int
  scaleK : Int
  stableBand : Int
  zeroBand : Int
  plyMatch : Int
  plyMin : Int
  liftUsed : Bool
  tHold : Nat
  historyMode : HistoryMode
  enables : BitVec 16
  wakeMinutes : Nat
  wakeMode : Mode
  startMode : Mode
  recipeCount : Nat
  recipes : Vector Recipe 8
deriving DecidableEq, Repr

/-- A recipe with every field at the lower limit of its range (R192, R193). -/
def lowestRecipe : Recipe :=
  { cureSp := 500, tRef := 500, dBase := 1, tMin := 0, tMax := 1, dOverMax := 0, mTgt := 1, tolPm := 1,
    plyMinCount := 1, plyMaxCount := 1, closeTimeout := 1, openTimeout := 1 }

/-- The values in place of a bad block's (R193): those of its table, and every other field at the lower limit of
its range. -/
def badConfig : Config :=
  { good := false, bitRate := 125, budget := 0
    zones := Vector.replicate 8 { enabled := false, power := 100, kp := 0, ki := 0 }
    margin := 10, tAbs := 500, escalation := 1, standbySp := 0, band := 1, soak := 0
    scaleZero := -8388608, scaleK := 1, stableBand := 1, zeroBand := 0, plyMatch := 0, plyMin := 1
    liftUsed := false, tHold := 10, historyMode := .strict, enables := 0xFFFF#16
    wakeMinutes := 0, wakeMode := .standby, startMode := .cold
    recipeCount := 1, recipes := Vector.replicate 8 lowestRecipe }

end Sys2Proof
end

