-- ==== Sys2Proof/Machine/State.lean ====
section
/-! DEFINITION. The state of one BC6: every piece of state the spec gives each of its blocks, as plain data, and
the state at reset. INVENTORY.md lists each field with its rule. -/

namespace Sys2Proof.Machine

/-- A timer: stopped, or running with the period it was loaded with, in ms. Its expiry is a command. -/
abbrev Timer := Option Nat

/-- The supply phase (R195): no supply, start sequence running, start sequence ended. -/
inductive Power where
  | off | starting | running
deriving DecidableEq, Repr

/-- The nine cycle states (chapter 1, section 1.1). -/
inductive CycleState where
  | idle | warming | loading | closing | cure | liftWait | opening | demould | faulted
deriving DecidableEq, Repr

/-- The strengths of a hold (R13). -/
inductive Hold where
  | free | soft | hard
deriving DecidableEq, Repr

/-- The close blockers (R4). -/
inductive Blocker where
  | clear | notReady | noCharge | hold | historyFull
deriving DecidableEq, Repr

/-- The zone states (R32). -/
inductive ZoneState where
  | off | active | overheat | sensorFault | lockedOut
deriving DecidableEq, Repr

/-- Where a zone stands in its windows (R43): no window yet; in the lead-in with `left` steps, the present one
included; between the end of a lead-in or window and step 0 of the next window; in a window step. -/
inductive WinPos where
  | idle
  | leadIn (left : Nat)
  | begins
  | step (n : Nat)
deriving DecidableEq, Repr

/-- The weigh link states (R58). -/
inductive LinkState where
  | inactive | weighing | suspended
deriving DecidableEq, Repr

/-- The BUILD states (R65); `overfull` is the spec's OVER. -/
inductive BuildState where
  | empty | building | accepted | overfull | disturbed | waitingStage
deriving DecidableEq, Repr

/-- The presence states of a peer (R105). -/
inductive Presence where
  | absent | fresh | stale
deriving DecidableEq, Repr

/-- A lift position with its ask number (R105, R130). -/
inductive LiftPos where
  | away
  | waiting (ask : Byte)
  | holding (ask : Byte)
deriving DecidableEq, Repr

/-- The results of a part record (R30). -/
inductive Result where
  | good | suspect | reject | aborted
deriving DecidableEq, Repr

/-- The causes of a trip (R180). -/
inductive TripCause where
  | overtemp | stuck
deriving DecidableEq, Repr

/-- The outcomes of an addressed command (R170). -/
inductive Verdict where
  | taken | refusedBusy | refusedRange | refusedMode | refusedCause
deriving DecidableEq, Repr

/-- The reasons of HNONE (R150, R196). -/
inductive NoneReason where
  | emptyStore | unknown | inCycle
deriving DecidableEq, Repr

/-- The sixteen attention kinds, in the order of the table of R184. -/
inductive Kind where
  | zoneFault | overheat | budgetMismatch | chargeDiscarded | buildDisturbed | weighFault | pressTimeout
  | undercure | overcure | liftLate | lineErrors | stationConflict | tripped | starved | history | config
deriving DecidableEq, Repr

/-- The reasons of a part record (R146). -/
structure Reasons where
  undercure : Bool
  overcure : Bool
  liftLate : Bool
  zoneLost : Bool
  predecessorLost : Bool
  curePresent : Bool
deriving DecidableEq, Repr

/-- The cycle record of the Cycle Unit (R1). `passed`: the ask number of the own entry passed under a hard hold
(R16); `tSeen`: a dose tick of this cycle has given a T_cure (R27). -/
structure Cycle where
  st : CycleState
  closeTimer : Timer
  openTimer : Timer
  doseTimer : Timer
  holdTimer : Timer
  lineHold : Hold
  blocker : Blocker
  deferred : Bool
  recovery : Bool
  passed : Option Byte
  serial : Nat
  dReq : Nat
  dose : Nat
  dOver : Nat
  elapsed : Nat
  tLow : Int
  tHigh : Int
  tSeen : Bool
  curtailed : Nat
  holdSecs : Nat
  liftWait : Nat
  reasons : Reasons
deriving DecidableEq, Repr

/-- The local lines (section 11.4): levels of the press and operator inputs that are read by level, and of the
outputs that are not derived from other state. -/
structure Lines where
  closedIn : Bool
  openedIn : Bool
  holdIn : Bool
  closeCmd : Bool
  openCmd : Bool
  liftCall : Bool
  tripOut : Bool
deriving DecidableEq, Repr

/-- One entry of the zone table (R32), with the monitor's run (R47), window (R48) and sample (R51) figures.
`duty` is d'; `loss` runs while the age is counted; `runOn`, `runLen`: the run in force and its steps so far;
`stuckSent`: this off-run has handed its STUCK request (R50); `onStep`, `seen`: the present window has had a
counting on-step, and one with current seen; `quiet`: latest samples in a row with the output off and no
current, up to 5; `entered`: the zone has entered ACTIVE since the latest 10 ms step, so that its output waits for the
next one (R45). -/
structure Zone where
  state : ZoneState
  temp : Int
  valid : Bool
  loss : Timer
  overLimit : Bool
  integ : Int
  d : Nat
  duty : Nat
  offset : Nat
  pos : WinPos
  opens : Nat
  lockout : Bool
  inBand : Bool
  runOn : Bool
  runLen : Nat
  stuckSent : Bool
  onStep : Bool
  seen : Bool
  quiet : Nat
  entered : Bool
deriving DecidableEq, Repr

/-- The Zone Unit: the zone table, the control tick timer (running once zone control has started, R33) and the
soak (R55). -/
structure ZoneUnit where
  table : Vector Zone 8
  control : Timer
  allInBand : Bool
  soakCount : Nat
  soakTimer : Timer
  ready : Bool
deriving DecidableEq, Repr

/-- The BUILD record (R65). -/
structure Build where
  state : BuildState
  total : Int
  plies : List Int
  overflow : Bool
deriving DecidableEq, Repr

/-- A charge record (R58). -/
structure Charge where
  total : Int
  plies : List Int
  recipe : Fin 8
deriving DecidableEq, Repr

/-- The Weigh Unit (R58). -/
structure Weigh where
  link : LinkState
  lossTimer : Timer
  latest : Int
  window : List Int
  tare : Int
  build : Build
  staged : Option Charge
  press : Option Charge
  recipe : Fin 8
deriving DecidableEq, Repr

/-- The Share Unit (R82). `raising`: none for NONE, else PENDING with Q_sent; `load`, `want`: L and Q of the
latest demands (R86), the d of each zone standing in the zone table; `starvedCond`: the STARVED condition. -/
structure Share where
  claim : Nat
  ceiling : Nat
  bEff : Nat
  mismatch : Bool
  raising : Option Nat
  starved : Bool
  starveTimer : Timer
  starvedCond : Bool
  load : Nat
  want : Nat
  curtailed : Bool
  listen : Timer
  shareTimer : Timer
deriving DecidableEq, Repr

/-- One peer entry (R105). -/
structure Peer where
  presence : Presence
  age : Timer
  held : Bool
  claim : Nat
  bound : Option Nat
  ceiling : Nat
  budget : Nat
  starved : Bool
  mode : Mode
  cycle : CycleState
  pos : LiftPos
  conflicts : Nat
deriving DecidableEq, Repr

/-- One entry of the lift view (R119). -/
structure LiftEntry where
  station : Station
  ask : Byte
deriving DecidableEq, Repr

/-- The Lift Queue (R119). `overdue`: the head mark is OVERDUE; `reAsk`: the re-ask timer runs, holding this ask
number. -/
structure Lift where
  view : List LiftEntry
  headTimer : Timer
  overdue : Bool
  ownAsk : Byte
  outstanding : Option Byte
  reAsk : Option Byte
deriving DecidableEq, Repr

/-- A part record (R146). -/
structure PartRecord where
  station : Station
  epoch : Half
  serial : Nat
  recipe : Fin 8
  result : Result
  reasons : Reasons
  total : Int
  plies : List Int
  dReq : Nat
  dOpen : Nat
  dOver : Nat
  cureSecs : Nat
  tLow : Int
  tHigh : Int
  curtailed : Nat
  holdSecs : Nat
  liftWait : Nat
deriving DecidableEq, Repr

/-- The reply buffer while BUSY (R151): the record's bytes, the low half of its serial, the destination, the
piece count and the next piece index. -/
structure Reply where
  bytes : List Byte
  serialLow : Half
  dst : Station
  count : Nat
  next : Nat
deriving DecidableEq, Repr

/-- The History Store (R139): the STORED records, oldest first; the serial of the RESERVED slot; the other slots
are FREE. `next`: none once the serials of the epoch are spent (R141). -/
structure History where
  stored : List PartRecord
  reserved : Option Nat
  predecessorLost : Bool
  next : Option Nat
  epoch : Half
  reply : Option Reply
  piece : Option Nat
deriving DecidableEq, Repr

/-- A message a BC6 sends (R168), with the fields its owner gives it. -/
inductive Msg where
  | share (claim ceiling budget : Nat) (starved : Bool) (mode : Mode) (cycle : CycleState) (pos : LiftPos)
  | raise (claim : Nat)
  | leave
  | ask (n : Byte)
  | done (n : Byte) (withdraw : Bool)
  | drop (holder : Station) (n : Byte)
  | part (epoch : Half) (serial : Nat) (result : Result)
  | hdata (dst : Station) (serialLow : Half) (index count : Nat) (data : List Byte)
  | hnone (dst : Station) (reason : NoneReason)
  | hbusy (dst : Station)
  | report (dst : Station) (payload : List Byte)
  | alert (kind : Kind)
  | trip (cause : TripCause) (zone : ZoneId)
  | answer (dst : Station) (kind : Byte) (verdict : Verdict)
deriving DecidableEq, Repr

/-- One entry of the transmit queue (R164). Its class follows from the message; its age order is its place. -/
structure Entry where
  msg : Msg
  attempts : Nat
  inFlight : Bool
deriving DecidableEq, Repr

/-- The Line Unit: transmit queue, oldest entry first (R164), whether the line is idle and the last sender of the
slot reference (R160, R161), and the receive error count (R158). -/
structure Line where
  queue : List Entry
  idle : Bool
  lastSender : Station
  errors : Nat
deriving DecidableEq, Repr

/-- The Mode logic (R174); the TRIP output stands among the lines. -/
structure ModeLogic where
  mode : Mode
  pendingMode : Option Mode
  wakeTimer : Timer
deriving DecidableEq, Repr

/-- The Attention logic (R184): bit k of `raw` is the raw flag of kind k; `configCond`: the CONFIG condition. The
enables stand in the configuration. -/
structure Attention where
  raw : BitVec 16
  configCond : Bool
deriving DecidableEq, Repr

/-- One transfer of the part with the configuration memory on its I2C bus (R199): the 7-bit bus address called, the memory
byte address it starts at, and the bytes written or how many are read. -/
inductive MemTransfer where
  | read (device : BitVec 7) (address : Half) (length : Nat)
  | write (device : BitVec 7) (address : Half) (data : List Byte)
deriving DecidableEq, Repr

/-- The state of the part, and the queue of the commands that wait. -/
structure State where
  pending : List Instr
  power : Power
  own : Station
  cfg : Config
  cfgBus : List MemTransfer
  lines : Lines
  cycle : Cycle
  zu : ZoneUnit
  weigh : Weigh
  share : Share
  peers : Vector Peer 16
  lift : Lift
  hist : History
  line : Line
  ml : ModeLogic
  attn : Attention
deriving DecidableEq, Repr

/-- The reasons a step can stop with a fault: none. The spec describes no event that stops the part; cycle
faults, trips and lost messages are ordinary state. -/
inductive Fault where
deriving DecidableEq, Repr

/-- The reasons a command can be refused. -/
inductive Refusal where
  /-- raised by `exec` alone, for a command whose meaning is not written; safe: the model stops where the part
  goes on. No arm raises it. -/
  | notModelled (mnemonic : String)
deriving DecidableEq, Repr

/-- No reason set. -/
def noReasons : Reasons := ⟨false, false, false, false, false, false⟩

/-- A zone entry at power-on (R32). -/
def zoneAtPowerOn : Zone :=
  { state := .off, temp := 0, valid := false, loss := none, overLimit := false, integ := 0, d := 0, duty := 0
    offset := 0, pos := .idle, opens := 0, lockout := false, inBand := false
    runOn := false, runLen := 0, stuckSent := false, onStep := false, seen := false, quiet := 0
    entered := false }

/-- An ABSENT peer entry (R105). -/
def absentPeer : Peer :=
  { presence := .absent, age := none, held := false, claim := 0, bound := none, ceiling := 0, budget := 0
    starved := false, mode := .cold, cycle := .idle, pos := .away, conflicts := 0 }

/-- BUILD in EMPTY (R65). -/
def emptyBuild : Build := ⟨.empty, 0, [], false⟩

/-- The part right after reset: without supply, every item at the value the spec gives at power-on, TRIP held
asserted (R195, note of section 11.4), no command waiting. DESIGN CHOICE, unsafe (log 1): the own number,
configuration and ceiling before POWER_ON reads them, and the input levels. -/
def State.reset : State :=
  { pending := []
    power := .off
    own := 0
    cfg := badConfig
    cfgBus := []
    lines := { closedIn := false, openedIn := false, holdIn := false, closeCmd := false, openCmd := false
               liftCall := false, tripOut := true }
    cycle := { st := .idle, closeTimer := none, openTimer := none, doseTimer := none, holdTimer := none
               lineHold := .free, blocker := .clear, deferred := false, recovery := false, passed := none
               serial := 0, dReq := 0, dose := 0, dOver := 0, elapsed := 0, tLow := 0, tHigh := 0
               tSeen := false, curtailed := 0, holdSecs := 0, liftWait := 0, reasons := noReasons }
    zu := { table := Vector.replicate 8 zoneAtPowerOn, control := none, allInBand := false, soakCount := 0
            soakTimer := none, ready := false }
    weigh := { link := .inactive, lossTimer := none, latest := 0, window := [], tare := 0, build := emptyBuild
               staged := none, press := none, recipe := 0 }
    share := { claim := 0, ceiling := 0, bEff := 0, mismatch := false, raising := none, starved := false
               starveTimer := none, starvedCond := false, load := 0, want := 0, curtailed := false
               listen := none, shareTimer := none }
    peers := Vector.replicate 16 absentPeer
    lift := { view := [], headTimer := none, overdue := false, ownAsk := 0, outstanding := none, reAsk := none }
    hist := { stored := [], reserved := none, predecessorLost := false, next := some 1, epoch := 0
              reply := none, piece := none }
    line := { queue := [], idle := true, lastSender := 15, errors := 0 }
    ml := { mode := .cold, pendingMode := none, wakeTimer := none }
    attn := { raw := 0#16, configCond := false } }

end Sys2Proof.Machine
end

