-- ==== Sys2Proof/Machine/Operands.lean ====
section
/-! DEFINITION. The operand forms of the commands: destinations (R157, R196) and the codes of enumerated fields, in
both directions (R196, R197). -/

namespace Sys2Proof.Machine

/-- The destination names this station: DST 0 to 15 equal to the own number (R157, R196). -/
def addressedTo (dst : Byte) (own : Station) : Bool := decide (dst.toNat = own.val)

/-- The destination is ALL: DST 16 to 255 (R196). -/
def toAll (dst : Byte) : Bool := decide (16 ≤ dst.toNat)

/-- The destination is ALL or the own number (R159). -/
def takenHere (dst : Byte) (own : Station) : Bool := toAll dst || addressedTo dst own

/-- The station a byte names, if it lies within 0 to 15. -/
def stationOf (b : Byte) : Option Station := if h : b.toNat < 16 then some ⟨b.toNat, h⟩ else none

/-- Mode codes (R197). -/
def modeCode : Mode → Nat
  | .cold => 0
  | .standby => 1
  | .run => 2
  | .tripped => 3

/-- The mode a code names (R197). -/
def modeOf : Nat → Option Mode
  | 0 => some .cold
  | 1 => some .standby
  | 2 => some .run
  | 3 => some .tripped
  | _ => none

/-- Cycle state codes (R197). -/
def cycleCode : CycleState → Nat
  | .idle => 0
  | .warming => 1
  | .loading => 2
  | .closing => 3
  | .cure => 4
  | .liftWait => 5
  | .opening => 6
  | .demould => 7
  | .faulted => 8

/-- The cycle state a code names (R197). -/
def cycleOf : Nat → Option CycleState
  | 0 => some .idle
  | 1 => some .warming
  | 2 => some .loading
  | 3 => some .closing
  | 4 => some .cure
  | 5 => some .liftWait
  | 6 => some .opening
  | 7 => some .demould
  | 8 => some .faulted
  | _ => none

/-- Lift position codes (R197). -/
def posCode : LiftPos → Nat
  | .away => 0
  | .waiting _ => 1
  | .holding _ => 2

/-- The ask number that goes with a lift position; 0 with NONE (R197). -/
def posAsk : LiftPos → Byte
  | .away => 0#8
  | .waiting n => n
  | .holding n => n

/-- The lift position of SHARE bytes 8 and 9: bits 1 and 0 of `flags`, and the ask number (R196, R197). -/
def posOf (flags ask : Byte) : Option LiftPos :=
  match flags.toNat % 4 with
  | 0 => some .away
  | 1 => some (.waiting ask)
  | 2 => some (.holding ask)
  | _ => none

/-- The starved flag of SHARE byte 8: bit 7 (R196). -/
def starvedOf (flags : Byte) : Bool := flags.getLsbD 7

/-- Result codes (R197). -/
def resultCode : Result → Nat
  | .good => 0
  | .suspect => 1
  | .reject => 2
  | .aborted => 3

/-- Close blocker codes (R197). -/
def blockerCode : Blocker → Nat
  | .clear => 0
  | .notReady => 1
  | .noCharge => 2
  | .hold => 3
  | .historyFull => 4

/-- BUILD state codes (R197). -/
def buildCode : BuildState → Nat
  | .empty => 0
  | .building => 1
  | .accepted => 2
  | .overfull => 3
  | .disturbed => 4
  | .waitingStage => 5

/-- Outcome codes (R197). -/
def verdictCode : Verdict → Nat
  | .taken => 0
  | .refusedBusy => 1
  | .refusedRange => 2
  | .refusedMode => 3
  | .refusedCause => 4

/-- HNONE reason codes (R196). -/
def noneReasonCode : NoneReason → Nat
  | .emptyStore => 0
  | .unknown => 1
  | .inCycle => 2

/-- Trip cause codes (R196). -/
def causeCode : TripCause → Nat
  | .overtemp => 0
  | .stuck => 1

/-- Attention kind codes, the place in the table of R184 (R197). -/
def kindCode : Kind → Nat
  | .zoneFault => 0
  | .overheat => 1
  | .budgetMismatch => 2
  | .chargeDiscarded => 3
  | .buildDisturbed => 4
  | .weighFault => 5
  | .pressTimeout => 6
  | .undercure => 7
  | .overcure => 8
  | .liftLate => 9
  | .lineErrors => 10
  | .stationConflict => 11
  | .tripped => 12
  | .starved => 13
  | .history => 14
  | .config => 15

/-- One bit of a byte. -/
def bitIf (b : Bool) (value : Nat) : Nat := if b then value else 0

/-- The reasons byte: bit 0 UNDERCURE to bit 5 CURE_PRESENT (R197). -/
def reasonsByte (r : Reasons) : Byte :=
  BitVec.ofNat 8 (bitIf r.undercure 1 + bitIf r.overcure 2 + bitIf r.liftLate 4 + bitIf r.zoneLost 8 +
    bitIf r.predecessorLost 16 + bitIf r.curePresent 32)

/-- The KIND codes of the commands that are answered (R196). -/
def kindWake : Byte := 13#8
/-- KIND of REST (R196). -/
def kindRest : Byte := 14#8
/-- KIND of CLEAR (R196). -/
def kindClear : Byte := 17#8
/-- KIND of SELECT (R196). -/
def kindSelect : Byte := 18#8
/-- KIND of FORGET (R196). -/
def kindForget : Byte := 20#8

/-- The zone numbers, in ascending order. -/
def zoneIds : List ZoneId := [0, 1, 2, 3, 4, 5, 6, 7]

/-- The station numbers, in ascending order. -/
def stationIds : List Station := [0, 1, 2, 3, 4, 5, 6, 7, 8, 9, 10, 11, 12, 13, 14, 15]

/-- The 15 station numbers other than the own number (R105). -/
def peerIds (own : Station) : List Station := stationIds.filter (fun p => p != own)

/-- `x` limited to the range `lo` to `hi` (00_scope.md, "Arithmetic"). -/
def clamp (x lo hi : Int) : Int := max lo (min x hi)

/-- Division rounding toward plus infinity, for a positive divisor (00_scope.md, "Arithmetic"). -/
def ceilDiv (a b : Nat) : Nat := (a + (b - 1)) / b

end Sys2Proof.Machine
end

