-- ==== Sys2Proof/Machine/Frames.lean ====
section
/-! DEFINITION. The messages a BC6 sends, as they stand on the line: class (R164), destination, kind and payload
(R196, R197), and the whole frame with its CRC (R157). -/

namespace Sys2Proof.Machine

/-- The class of a message, fixed by its kind (R164). -/
def Msg.cls : Msg → Nat
  | .trip .. => 0
  | .ask _ | .done .. | .drop .. => 1
  | .share .. | .raise _ | .leave => 2
  | .part .. | .hdata .. | .hnone .. | .hbusy _ | .report .. | .alert _ | .answer .. => 3

/-- The message is a SHARE. -/
def Msg.isShare : Msg → Bool
  | .share .. => true
  | _ => false

/-- The message is a RAISE. -/
def Msg.isRaise : Msg → Bool
  | .raise _ => true
  | _ => false

/-- The message is an HDATA piece. -/
def Msg.isHdata : Msg → Bool
  | .hdata .. => true
  | _ => false

/-- The two messages are of one kind of which the queue holds at most one waiting: both SHARE or both RAISE
(R166). -/
def Msg.coalesces (m n : Msg) : Bool := (m.isShare && n.isShare) || (m.isRaise && n.isRaise)

/-- The DST byte: the station addressed, or 255 for ALL (R168, R196). -/
def Msg.dstByte : Msg → Byte
  | .hdata dst .. | .hnone dst _ | .hbusy dst | .report dst _ | .answer dst .. => BitVec.ofNat 8 dst.val
  | _ => 255#8

/-- The KIND code (R196). -/
def Msg.kindByte : Msg → Byte
  | .share .. => 1#8
  | .raise _ => 2#8
  | .leave => 3#8
  | .ask _ => 4#8
  | .done .. => 5#8
  | .drop .. => 6#8
  | .part .. => 7#8
  | .hdata .. => 9#8
  | .hnone .. => 11#8
  | .hbusy _ => 12#8
  | .report .. => 19#8
  | .alert _ | .trip .. | .answer .. => 21#8

/-- SHARE payload byte 8: bits 1 and 0 the lift position, bit 7 starved, the rest spare and 0 (R196, R197). -/
def shareFlags (starved : Bool) (pos : LiftPos) : Byte := BitVec.ofNat 8 (posCode pos + bitIf starved 128)

/-- HDATA payload byte 2: the piece index in the upper four bits, the piece count in the lower four (R196). -/
def pieceByte (index count : Nat) : Byte := BitVec.ofNat 8 (index % 16 * 16 + count % 16)

/-- The payload (R196, R197). -/
def Msg.payload : Msg → List Byte
  | .share claim ceiling budget starved mode cycle pos =>
    beBytes 2 claim ++ beBytes 2 ceiling ++ beBytes 2 budget ++
      [BitVec.ofNat 8 (modeCode mode), BitVec.ofNat 8 (cycleCode cycle), shareFlags starved pos, posAsk pos]
  | .raise claim => beBytes 2 claim
  | .leave => []
  | .ask n => [n]
  | .done n withdraw => [n, BitVec.ofNat 8 (bitIf withdraw 1)]
  | .drop holder n => [BitVec.ofNat 8 holder.val, n]
  | .part epoch serial result => beBytes 2 epoch.toNat ++ beBytes 4 serial ++ [BitVec.ofNat 8 (resultCode result)]
  | .hdata _ serialLow index count data => beBytes 2 serialLow.toNat ++ [pieceByte index count] ++ data
  | .hnone _ reason => [BitVec.ofNat 8 (noneReasonCode reason)]
  | .hbusy _ => []
  | .report _ payload => payload
  | .alert kind => [0#8, BitVec.ofNat 8 (kindCode kind)]
  | .trip cause zone => [1#8, BitVec.ofNat 8 (causeCode cause), BitVec.ofNat 8 zone.val]
  | .answer _ kind verdict => [2#8, kind, BitVec.ofNat 8 (verdictCode verdict)]

/-- Header and payload of the frame station `src` sends for a message: SRC and LEN share the first byte (R196). -/
def Msg.body (src : Station) (m : Msg) : List Byte :=
  BitVec.ofNat 8 (src.val * 16 + m.payload.length) :: m.dstByte :: m.kindByte :: m.payload

/-- The whole frame: header, payload and CRC (R157, R196). -/
def Msg.frame (src : Station) (m : Msg) : List Byte :=
  m.body src ++ beBytes 2 (crc16 (m.body src)).toNat

/-- The bytes of a part record: 38 + 3n for n plies (R198). -/
def PartRecord.bytes (r : PartRecord) : List Byte :=
  [BitVec.ofNat 8 r.station.val] ++ beBytes 2 r.epoch.toNat ++ beBytes 4 r.serial ++
  [BitVec.ofNat 8 r.recipe.val, BitVec.ofNat 8 (resultCode r.result), reasonsByte r.reasons] ++
  beBytesInt 3 r.total ++ [BitVec.ofNat 8 r.plies.length] ++
  beBytes 4 r.dReq ++ beBytes 4 r.dOpen ++ beBytes 4 r.dOver ++ beBytes 2 r.cureSecs ++
  beBytesInt 2 r.tLow ++ beBytesInt 2 r.tHigh ++ beBytes 2 r.curtailed ++ beBytes 2 r.holdSecs ++
  beBytes 2 r.liftWait ++ r.plies.flatMap (beBytesInt 3)

/-- The piece count of a record of n plies: ceil((38 + 3n) / 9) (R148). -/
def pieceCount (n : Nat) : Nat := ceilDiv (38 + 3 * n) pieceBytes

/-- The nine data bytes of piece `i`, zero beyond the record's end (R148, R151). -/
def pieceData (bytes : List Byte) (i : Nat) : List Byte :=
  let here := (bytes.drop (pieceBytes * i)).take pieceBytes
  here ++ List.replicate (pieceBytes - here.length) 0#8

end Sys2Proof.Machine
end

