-- ==== Sys2Proof/Machine/Ops.lean ====
section
/-! DEFINITION. The shared operations on the state: the transmit queue with its admission (R164 to R167), the reply
buffer's pieces (R151, R152), the notices to owners (R163), queueing SHARE at a change (R99), and reading and
setting the tables of zones and peers. -/

namespace Sys2Proof.Machine

/-! ### Reading the state -/

/-- The mode in force (R174). -/
def State.mode (s : State) : Mode := s.ml.mode

/-- The configuration of a zone. -/
def State.zoneCfg (s : State) (z : ZoneId) : ZoneCfg := s.cfg.zones[z]

/-- A zone entry. -/
def State.zone (s : State) (z : ZoneId) : Zone := s.zu.table[z]

/-- Writes a zone entry. -/
def State.setZone (s : State) (z : ZoneId) (v : Zone) : State :=
  { s with zu := { s.zu with table := s.zu.table.set z v } }

/-- Rewrites every zone entry. -/
def State.mapZones (s : State) (f : ZoneId → Zone → Zone) : State :=
  { s with zu := { s.zu with table := Vector.ofFn fun z => f z s.zu.table[z] } }

/-- A peer entry. -/
def State.peer (s : State) (p : Station) : Peer := s.peers[p]

/-- Writes a peer entry. -/
def State.setPeer (s : State) (p : Station) (v : Peer) : State := { s with peers := s.peers.set p v }

/-- The active recipe (R58, R77). -/
def State.recipe (s : State) : Recipe := s.cfg.recipes[s.weigh.recipe]

/-- The hold state (R13). -/
def State.hold (s : State) : Hold := if s.lines.holdIn then .hard else s.cycle.lineHold

/-- PRESS is occupied (R74). -/
def State.pressOccupied (s : State) : Bool := s.weigh.press.isSome

/-- The setpoint of every zone: by mode and active recipe, none in COLD and TRIPPED (R34). -/
def State.setpoint (s : State) : Option Int :=
  match s.mode with
  | .run => some s.recipe.cureSp
  | .standby => some s.cfg.standbySp
  | .cold | .tripped => none

/-- Zone control has started (R33). -/
def State.zoneControl (s : State) : Bool := s.zu.control.isSome

/-- The output of a zone: on if and only if zone control has started and the zone is past its lead-in, its state is
ACTIVE, TRIP is released and its window step is below its d' (R44); a zone that has entered ACTIVE follows this from the
next step, and one that leaves ACTIVE is off at once (R45). Between a window's end and the next step the
step about to begin, 0, counts, so that a run continues across the boundary (R47). -/
def Zone.output (z : Zone) (tripOut : Bool) : Bool :=
  decide (z.state = .active) && !z.entered && !tripOut &&
    match z.pos with
    | .step n => decide (n < z.duty)
    | .begins => decide (0 < z.duty)
    | .idle | .leadIn _ => false

/-- The output of zone `z` (R44). -/
def State.zoneOut (s : State) (z : ZoneId) : Bool := (s.zone z).output s.lines.tripOut

/-! ### The lift position -/

/-- The own entry of a lift view (R119). -/
def ownEntryOf (own : Station) (view : List LiftEntry) : Option LiftEntry := view.find? (fun e => e.station == own)

/-- The own entry of the own view. -/
def State.ownEntry (s : State) : Option LiftEntry := ownEntryOf s.own s.lift.view

/-- The own lift position (R130); NONE where the lift is not used (R135). -/
def State.ownPos (s : State) : LiftPos :=
  if s.cfg.liftUsed then
    match s.ownEntry with
    | none => .away
    | some e => if s.lift.view.head? = some e then .holding e.ask else .waiting e.ask
  else .away

/-! ### The history store's counts -/

/-- FREE slots (R139). -/
def History.free (h : History) : Nat := historySlots - (h.stored.length + (if h.reserved.isSome then 1 else 0))

/-! ### The transmit queue -/

/-- How many class 3 entries a queue holds. -/
def class3Count (q : List Entry) : Nat := (q.filter (fun e => e.msg.cls == 3)).length

/-- A class 3 message finds room: fewer than 5 class 3 entries and fewer than 12 in all (R167). -/
def roomForClass3 (q : List Entry) : Bool := decide (class3Count q < class3Limit) && decide (q.length < queueSize)

/-- A new entry: attempt count 0, waiting (R162, R164). -/
def newEntry (m : Msg) : Entry := { msg := m, attempts := 0, inFlight := false }

/-- Appends an entry for a message at the youngest end (R164). -/
def State.append (s : State) (m : Msg) : State :=
  { s with line := { s.line with queue := s.line.queue ++ [newEntry m] } }

/-- Queues a class 3 message, or loses it where it finds no room, without notice (R167). An ALERT that finds the queue full
with a class 3 entry to displace is lost too: R167 is followed over the words of R185 (log 38). -/
def State.pushClass3 (s : State) (m : Msg) : State :=
  if roomForClass3 s.line.queue then s.append m else s

/-- The waiting entry of the same coalescing kind rewritten in place, its attempt count 0; none where the queue holds
no such entry (R166). -/
def rewriteWaiting (m : Msg) : List Entry → Option (List Entry)
  | [] => none
  | e :: es =>
    if !e.inFlight && e.msg.coalesces m then some (newEntry m :: es)
    else (rewriteWaiting m es).map (e :: ·)

/-- Takes out the youngest class 3 entry that is not in flight (R167). -/
def displaceYoungest : List Entry → Option (Msg × List Entry)
  | [] => none
  | e :: es =>
    match displaceYoungest es with
    | some (m, rest) => some (m, e :: rest)
    | none => if e.msg.cls == 3 && !e.inFlight then some (e.msg, es) else none

/-- Offers the next HDATA piece: it is queued when no own piece is in the transmit queue and a class 3 entry is free,
and waits in the buffer otherwise (R151). -/
def State.offerPiece (s : State) : State :=
  match s.hist.reply with
  | none => s
  | some r =>
    if s.hist.piece.isNone && decide (r.next < r.count) && roomForClass3 s.line.queue then
      { (s.append (.hdata r.dst r.serialLow r.next r.count (pieceData r.bytes r.next))) with
        hist := { s.hist with piece := some r.next, reply := some { r with next := r.next + 1 } } }
    else s

/-- An own HDATA piece has left the transmit queue: the next one is offered at once, or the reply ends (R152). -/
def State.pieceLeft (s : State) : State :=
  let s := { s with hist := { s.hist with piece := none } }
  match s.hist.reply with
  | none => s
  | some r =>
    if r.next < r.count then s.offerPiece
    else { s with hist := { s.hist with reply := none } }

/-- A class 3 entry of message `m` has left the transmit queue: the reply buffer's piece is offered (R151), and a piece
that left is a piece gone (R152). -/
def State.class3Left (s : State) (m : Msg) : State :=
  if m.isHdata then s.pieceLeft else if m.cls == 3 then s.offerPiece else s

/-- The owner is told that an own RAISE or ASK will not reach the line: the raise is abandoned (R91), or the re-ask timer
takes up the ask number, the outstanding ask becoming absent where it is that one (R128, R129). The other kinds of R163 that
act at a final drop act on the queue (`State.finalDrop`). -/
def State.tellOwner (s : State) (m : Msg) : State :=
  match m with
  | .raise _ => { s with share := { s.share with raising := none } }
  | .ask n =>
    { s with lift := { s.lift with
      outstanding := if s.lift.outstanding = some n then none else s.lift.outstanding, reAsk := some n } }
  | _ => s

/-- Queues a message of class 0 to 2, rewriting in place, displacing or dropping it as R166 and R167 state; a message
dropped at its queueing is told to its owner (R167). A DROP dropped so is not queued again within the event, where
it would find the same queue full (log 12). -/
def State.pushUrgent (s : State) (m : Msg) : State :=
  match rewriteWaiting m s.line.queue with
  | some q => { s with line := { s.line with queue := q } }
  | none =>
    if s.line.queue.length < queueSize then s.append m
    else
      match displaceYoungest s.line.queue with
      | some (gone, q) =>
        ({ s with line := { s.line with queue := q } }.append m).class3Left gone
      | none => s.tellOwner m

/-- Queues a message (R164 to R167). -/
def State.enqueue (s : State) (m : Msg) : State :=
  if m.cls = 3 then s.pushClass3 m else s.pushUrgent m

/-- SHARE with each field as it stands (R99). -/
def State.shareMsg (s : State) : Msg :=
  .share s.share.claim s.share.ceiling s.cfg.budget s.share.starved s.mode s.cycle.st s.ownPos

/-- Queues SHARE; in COLD none is queued (R99). -/
def State.queueShare (s : State) : State :=
  if s.mode = .cold then s else s.enqueue s.shareMsg

/-- Sets the cycle state; a change queues SHARE (R99). -/
def State.setCycle (s : State) (st : CycleState) : State :=
  if s.cycle.st = st then s else { s with cycle := { s.cycle with st := st } }.queueShare

/-! ### Choosing what is sent -/

/-- The oldest waiting entry of class `c`, marked in flight; none where the queue holds none (R165). -/
def sendOldest (c : Nat) : List Entry → Option (List Entry)
  | [] => none
  | e :: es =>
    if !e.inFlight && e.msg.cls == c then some ({ e with inFlight := true } :: es)
    else (sendOldest c es).map (e :: ·)

/-- The oldest waiting entry of the lowest class number, marked in flight (R165). -/
def sendNext (q : List Entry) : Option (List Entry) :=
  (sendOldest 0 q).orElse fun _ => (sendOldest 1 q).orElse fun _ => (sendOldest 2 q).orElse fun _ => sendOldest 3 q

/-- The entry in flight (R164). -/
def inFlightOf (q : List Entry) : Option Entry := q.find? (·.inFlight)

/-- The queue without its entry in flight. -/
def dropInFlight (q : List Entry) : List Entry := q.filter (fun e => !e.inFlight)

/-- The entry in flight returned to the queue as waiting, at its place, with its attempt count increased (R162). -/
def returnInFlight (q : List Entry) : List Entry :=
  q.map fun e => if e.inFlight then { e with attempts := e.attempts + 1, inFlight := false } else e

/-- The frame being sent, byte by byte: that of the entry in flight (R157, R164). -/
def State.lineOut (s : State) : List Byte :=
  match inFlightOf s.line.queue with
  | some e => e.msg.frame s.own
  | none => []

end Sys2Proof.Machine
end

