-- ==== Sys2Proof/Machine/Flags.lean ====
section
/-! DEFINITION. The attention flags: raising a kind (R185), the conditions of the level kinds (R184), clearing (R187)
and ATTN (R186). -/

namespace Sys2Proof.Machine

/-- The flag word with only the flag of a kind set (R197). -/
def kindBit (k : Kind) : BitVec 16 := 1#16 <<< kindCode k

/-- Sets the raw flag of a kind. -/
def State.setFlag (s : State) (k : Kind) : State :=
  { s with attn := { s.attn with raw := s.attn.raw ||| kindBit k } }

/-- The raw flag of a kind is set. -/
def State.flag (s : State) (k : Kind) : Bool := s.attn.raw.getLsbD (kindCode k)

/-- The kind is enabled (R184). -/
def State.enabled (s : State) (k : Kind) : Bool := s.cfg.enables.getLsbD (kindCode k)

/-- Raises a kind: its raw flag is set, and where its enable is set ALERT is queued (R185). -/
def State.raiseKind (s : State) (k : Kind) : State :=
  if s.enabled k then (s.setFlag k).enqueue (.alert k) else s.setFlag k

/-- The conditions of the level kinds, as flags (R184): TRIPPED, STARVED, HISTORY and CONFIG. -/
def State.levelFlags (s : State) : BitVec 16 :=
  (if s.mode = .tripped then kindBit .tripped else 0#16) |||
  (if s.share.starvedCond then kindBit .starved else 0#16) |||
  (if s.hist.free = 0 then kindBit .history else 0#16) |||
  (if s.attn.configCond then kindBit .config else 0#16)

/-- The start of a clearing event: every raw flag is cleared, so that at the event's end only the kinds raised within it
and the level kinds whose condition holds stand (R187). -/
def State.clearFlags (s : State) : State := { s with attn := { s.attn with raw := 0#16 } }

/-- The end of a clearing event: the flags of the level kinds whose condition holds are set again, which is no raise
(R185, R187). -/
def State.resetLevels (s : State) : State :=
  { s with attn := { s.attn with raw := s.attn.raw ||| s.levelFlags } }

/-- The ATTN output: asserted while a kind has both its raw flag and its enable set (R186). -/
def State.attnOut (s : State) : Bool := (s.attn.raw &&& s.cfg.enables) != 0#16

end Sys2Proof.Machine
end

