-- ==== Sys2Proof/Machine/History.lean ====
section
/-! DEFINITION. The History Store: reservation (R142, R143), completing a record (R145), collection (R150 to
R153). -/

namespace Sys2Proof.Machine

/-- The record with the lowest serial (R143, R150). -/
def oldestOf : List PartRecord → Option PartRecord
  | [] => none
  | r :: rs =>
    match oldestOf rs with
    | none => some r
    | some q => if r.serial ≤ q.serial then some r else some q

/-- The History Store can reserve a slot (R142). -/
def State.canReserve (s : State) : Bool :=
  s.hist.next.isSome && (decide (s.cfg.historyMode = .lenient) || decide (0 < s.hist.free))

/-- The next serial after one is taken; spent after the last (R141). -/
def serialAfter (n : Nat) : Option Nat := if n = lastSerial then none else some (n + 1)

/-- Reserves a slot within a close: a FREE one, or in a full store the oldest STORED record's; the reserved serial is the
next serial (R143), and the reservation that leaves no slot FREE raises HISTORY (R144). With the serials spent nothing
is reserved, which R142 rules out. -/
def State.reserve (s : State) : State :=
  match s.hist.next with
  | none => s
  | some n =>
    let full := decide (s.hist.free = 0)
    let kept :=
      if full then
        match oldestOf s.hist.stored with
        | some r => s.hist.stored.erase r
        | none => s.hist.stored
      else s.hist.stored
    let s := { s with hist := { s.hist with
      stored := kept, reserved := some n, predecessorLost := full, next := serialAfter n } }
    if s.hist.free = 0 then s.raiseKind .history else s

/-- Completes the RESERVED record: the store adds its own fields, the slot becomes STORED and PART is queued
(R145). -/
def State.storeRecord (s : State) (r : PartRecord) : State :=
  match s.hist.reserved with
  | none => s
  | some n =>
    let r := { r with
      station := s.own, epoch := s.hist.epoch, serial := n,
      reasons := { r.reasons with predecessorLost := s.hist.predecessorLost } }
    let s := { s with hist := { s.hist with
      stored := s.hist.stored ++ [r], reserved := none, predecessorLost := false } }
    s.enqueue (.part r.epoch r.serial r.result)

/-- The STORED record of a serial. -/
def State.storedOf (s : State) (serial : Nat) : Option PartRecord :=
  s.hist.stored.find? (fun r => r.serial == serial)

/-- A record is copied into the reply buffer for station `x`, and its first piece is offered (R151). -/
def State.beginReply (s : State) (x : Station) (r : PartRecord) : State :=
  let reply : Reply :=
    { bytes := r.bytes, serialLow := BitVec.ofNat 16 r.serial, dst := x, count := pieceCount r.plies.length
      next := 0 }
  { s with hist := { s.hist with reply := some reply } }.offerPiece

/-- The answer where no record is sent: EMPTY if no slot is STORED, UNKNOWN otherwise (R150 rows 5 and 6). -/
def State.noRecord (s : State) : NoneReason := if s.hist.stored.isEmpty then .emptyStore else .unknown

/-- An HGET addressed to this station, judged in the order of R150. -/
def State.serveHget (s : State) (x : Station) (selector : Byte) (serial : Nat) : State :=
  if s.hist.reply.isSome then s.enqueue (.hbusy x)
  else if selector = 1#8 then
    if s.hist.reserved = some serial then s.enqueue (.hnone x .inCycle)
    else
      match s.storedOf serial with
      | some r => s.beginReply x r
      | none => s.enqueue (.hnone x s.noRecord)
  else if selector = 0#8 then
    match oldestOf s.hist.stored with
    | some r => s.beginReply x r
    | none => s.enqueue (.hnone x s.noRecord)
  else s.enqueue (.hnone x s.noRecord)

/-- An HTAKE addressed to this station: the STORED record of the serial is discarded (R153). -/
def State.serveHtake (s : State) (serial : Nat) : State :=
  match s.storedOf serial with
  | some r => { s with hist := { s.hist with stored := s.hist.stored.erase r } }
  | none => s

end Sys2Proof.Machine
end

