-- ==== Sys2Proof/Machine/Weigh.lean ====
section
/-! DEFINITION. The Weigh Unit: conversion (R61), weigh faults (R62), the stability window (R63), the build on the scale
(R64 to R72), the charge slots (R73 to R75) and recipe selection (R76). -/

namespace Sys2Proof.Machine

/-- Replaces the Weigh Unit's record. -/
def State.setWeigh (s : State) (w : Weigh) : State := { s with weigh := w }

/-- Replaces BUILD. -/
def State.setBuild (s : State) (b : Build) : State := { s with weigh := { s.weigh with build := b } }

/-! ### Conversion and faults -/

/-- The mass of a count before its limits: floor((count - zero) * K / 65536) (R61). -/
def rawMass (count zero k : Int) : Int := (count - zero) * k / 65536

/-- A mass limited as R61 states. -/
def limitMass (m : Int) : Int := clamp m (-32768) 300000

/-- A weigh fault (R62). -/
def State.weighFault (s : State) : State :=
  let was := s.weigh.link
  let s := s.setWeigh { s.weigh with window := [] }
  if was = .weighing then (s.setWeigh { s.weigh with link := .suspended }).raiseKind .weighFault else s

/-! ### The slots -/

/-- The charge record made from BUILD (R73). -/
def State.builtCharge (s : State) : Charge :=
  { total := s.weigh.build.total, plies := s.weigh.build.plies, recipe := s.weigh.recipe }

/-- BUILD's charge moves into STAGED and BUILD becomes EMPTY (R65, R73). -/
def State.stageBuild (s : State) : State :=
  s.setWeigh { s.weigh with staged := some s.builtCharge, build := emptyBuild }

/-- The Weigh Unit's part of a close: STAGED moves into PRESS, and a charge held in WAITING_STAGE moves into STAGED
(R72, R74). -/
def State.takeCharge (s : State) : State :=
  let s := s.setWeigh { s.weigh with press := s.weigh.staged, staged := none }
  if s.weigh.build.state = .waitingStage then s.stageBuild else s

/-- PRESS is emptied (R75). -/
def State.emptyPress (s : State) : State := s.setWeigh { s.weigh with press := none }

/-! ### The build (R64 to R72) -/

/-- tol_abs of a recipe (R70). -/
def tolAbs (r : Recipe) : Int := ((r.mTgt * r.tolPm / 1000 : Nat) : Int)

/-- The state of BUILD after the re-check against the recipe (R70). -/
def recheckedState (r : Recipe) (b : Build) : BuildState :=
  if !b.overflow && decide ((r.mTgt : Int) - tolAbs r ≤ b.total) && decide (b.total ≤ (r.mTgt : Int) + tolAbs r) &&
      decide (r.plyMinCount ≤ b.plies.length) && decide (b.plies.length ≤ r.plyMaxCount) then .accepted
  else if b.overflow || decide ((r.mTgt : Int) + tolAbs r < b.total) || decide (r.plyMaxCount < b.plies.length) then .overfull
  else .building

/-- The re-check (R70). -/
def recheck (r : Recipe) (b : Build) : Build := { b with state := recheckedState r b }

/-- A stable event in EMPTY: tare refresh or first ply (R66). -/
def State.judgeEmpty (s : State) (stable : Int) : State :=
  let net := stable - s.weigh.tare
  if -s.cfg.zeroBand ≤ net ∧ net ≤ s.cfg.zeroBand then s.setWeigh { s.weigh with tare := stable }
  else if s.cfg.plyMin ≤ net then
    s.setBuild (recheck s.recipe { state := .building, total := net, plies := [net], overflow := false })
  else s

/-- A lift-off (R67). -/
def State.liftOff (s : State) : State :=
  if s.weigh.build.state = .accepted then
    if s.weigh.staged.isNone then s.stageBuild
    else s.setBuild { s.weigh.build with state := .waitingStage }
  else (s.setBuild emptyBuild).raiseKind .chargeDiscarded

/-- A ply added (R68). -/
def State.addPly (s : State) (net : Int) : State :=
  let b := s.weigh.build
  if b.plies.length < plyLimit then
    s.setBuild (recheck s.recipe { b with plies := b.plies ++ [net - b.total], total := net })
  else s.setBuild { b with overflow := true, state := .overfull }

/-- A ply removed (R69). -/
def State.removePly (s : State) (net : Int) : State :=
  let b := s.weigh.build
  let last := b.plies.getLastD 0
  let decrease := b.total - net
  if last - s.cfg.plyMatch ≤ decrease ∧ decrease ≤ last + s.cfg.plyMatch then
    if b.plies.dropLast.isEmpty then s.setBuild emptyBuild
    else s.setBuild (recheck s.recipe { b with plies := b.plies.dropLast, total := b.total - last })
  else (s.setBuild { b with state := .disturbed }).raiseKind .buildDisturbed

/-- Overflow clearing: in OVER with the overflow mark set, a net below total + ply_min clears the mark and re-checks
(R70). -/
def State.clearOverflow (s : State) (net : Int) : State :=
  let b := s.weigh.build
  if b.state = .overfull ∧ b.overflow ∧ net - b.total < s.cfg.plyMin then
    s.setBuild (recheck s.recipe { b with overflow := false })
  else s

/-- A stable event in BUILDING, ACCEPTED or OVER: lift-off, overflow clearing, ply added, ply removed, in this order
(R64). -/
def State.judgeStack (s : State) (net : Int) : State :=
  if net ≤ s.cfg.zeroBand then s.liftOff
  else
    let s := s.clearOverflow net
    if s.cfg.plyMin ≤ net - s.weigh.build.total then s.addPly net
    else if s.cfg.plyMin ≤ s.weigh.build.total - net then s.removePly net
    else s

/-- A stable event is judged by BUILD (R64). -/
def State.stableEvent (s : State) (stable : Int) : State :=
  let net := stable - s.weigh.tare
  match s.weigh.build.state with
  | .empty => s.judgeEmpty stable
  | .building | .accepted | .overfull => s.judgeStack net
  | .disturbed => if net ≤ s.cfg.zeroBand then s.liftOff else s
  | .waitingStage => s

/-! ### The stability window (R63) -/

/-- The largest mass less the smallest of a window. -/
def spread (w : List Int) : Int := w.foldl max (w.headD 0) - w.foldl min (w.headD 0)

/-- The stable value of a full window: floor(sum / 16) (R63). -/
def stableValue (w : List Int) : Int := w.sum / 16

/-- The window after a valid reading: appended at the tail, the oldest removed beyond 16 (R63). -/
def windowAfter (w : List Int) (m : Int) : List Int :=
  let w' := w ++ [m]
  if stabilitySize < w'.length then w'.drop 1 else w'

/-- A valid reading enters the window; in SUSPENDED the sixteenth returns the link to WEIGHING; in WEIGHING a full window
is tested, and a stable one makes a stable event (R62, R63). -/
def State.validReading (s : State) (m : Int) : State :=
  let w := windowAfter s.weigh.window m
  let link := if s.weigh.link = .suspended ∧ w.length = stabilitySize then .weighing else s.weigh.link
  let s := s.setWeigh { s.weigh with window := w, link := link }
  if link = .weighing ∧ w.length = stabilitySize ∧ spread w ≤ s.cfg.stableBand then s.stableEvent (stableValue w)
  else s

/-! ### Mode entries (R59, R78) -/

/-- Weighing starts, at entry to STANDBY, RUN or TRIPPED from COLD (R59). -/
def State.startWeighing (s : State) : State :=
  s.setWeigh { s.weigh with link := .weighing, window := [], lossTimer := some tWeigh }

/-- Entry to COLD: weighing stops, BUILD and STAGED are discarded, the tare is kept (R59, R78). -/
def State.stopWeighing (s : State) : State :=
  s.setWeigh { s.weigh with link := .inactive, window := [], lossTimer := none, build := emptyBuild, staged := none }

/-- BUILD is not EMPTY or STAGED is occupied (R78). -/
def State.chargeHeld (s : State) : Bool := (s.weigh.build.state != .empty) || s.weigh.staged.isSome

end Sys2Proof.Machine
end

