-- ==== Sys2Proof/Machine/Cycle.lean ====
section
/-! DEFINITION. The Cycle Unit and the own asks it makes: dose arithmetic (R22 to R27), the press sequence (R4 to R10),
requests to the Lift Queue (R128, R132), holds and reports of the lift (R9, R15, R16, R31), the part record (R28 to
R30). Entry to FAULTED, CLEAR and the end of a cycle, which apply a pending mode, stand in Modes.lean. -/

namespace Sys2Proof.Machine

/-- Rewrites the cycle record. -/
def State.updCycle (s : State) (f : Cycle → Cycle) : State := { s with cycle := f s.cycle }

/-- Rewrites the lines. -/
def State.updLines (s : State) (f : Lines → Lines) : State := { s with lines := f s.lines }

/-- Rewrites the Lift Queue's record. -/
def State.updLift (s : State) (f : Lift → Lift) : State := { s with lift := f s.lift }

/-! ### Dose -/

/-- The table M[j] of R23. -/
def mantissa : Nat → Nat
  | 0 => 1000
  | 1 => 1072
  | 2 => 1149
  | 3 => 1231
  | 4 => 1320
  | 5 => 1414
  | 6 => 1516
  | 7 => 1625
  | 8 => 1741
  | _ => 1866

/-- The dose increment of one tick, in milli-units (R23). -/
def doseIncrement (tCure tRef : Int) : Nat :=
  let e := tCure - tRef
  if e < -400 then 0
  else
    let e := min e 400
    let q := e / 100
    let j := ((e - 100 * q) / 10).toNat
    if 0 ≤ q then mantissa j * 2 ^ q.toNat else mantissa j / 2 ^ (-q).toNat

/-- The zone counts for the cure temperature (R22, R57). -/
def Zone.counts (z : Zone) : Bool := z.valid && (decide (z.state = .active) || decide (z.state = .overheat))

/-- The cure temperature at this moment: the lowest reading among the counting zones, given only where each platen has
one (R22, R57). -/
def State.cureTemp (s : State) : Option Int :=
  let upper := [0, 1, 2, 3].filter fun z : ZoneId => (s.zone z).counts
  let lower := [4, 5, 6, 7].filter fun z : ZoneId => (s.zone z).counts
  match upper, lower with
  | u :: _, _ :: _ => some ((upper ++ lower).foldl (fun t z => min t (s.zone z).temp) (s.zone u).temp)
  | _, _ => none

/-- A dose count saturates at 32 bits (R24, R26). -/
def addDose (d inc : Nat) : Nat := min doseLimit (d + inc)

/-- D_req (R25). -/
def requiredDose (r : Recipe) (mAct : Nat) : Nat := r.dBase * 1000 * mAct / r.mTgt

/-- The running figures after a dose tick that takes temperature `t` (R7, R22, R24, R26, R27). -/
def tickFigures (c : Cycle) (t : Option Int) (tRef : Int) (curtailed : Bool) : Cycle :=
  let inc := (t.map fun t => doseIncrement t tRef).getD 0
  { c with
    dose := addDose c.dose inc
    elapsed := c.elapsed + 1
    dOver := if c.st = .liftWait ∨ c.st = .opening then addDose c.dOver inc else c.dOver
    tLow := match t with | some t => if c.tSeen then min c.tLow t else t | none => c.tLow
    tHigh := match t with | some t => if c.tSeen then max c.tHigh t else t | none => c.tHigh
    tSeen := c.tSeen || t.isSome
    curtailed := c.curtailed + (if curtailed then 1 else 0)
    liftWait := c.liftWait + (if c.st = .liftWait then 1 else 0)
    reasons := { c.reasons with zoneLost := c.reasons.zoneLost || t.isNone } }

/-- The cure completes at this tick (R8). -/
def cureComplete (c : Cycle) (r : Recipe) : Bool :=
  (decide (c.dReq ≤ c.dose) && decide (r.tMin ≤ c.elapsed)) || decide (r.tMax ≤ c.elapsed)

/-! ### Requests to the Lift Queue -/

/-- A new own ask: the own ask number advances, ASK is queued under it and it is outstanding (R128); the deferred-ask flag
is cleared (R15). -/
def State.requestAsk (s : State) : State :=
  let n := s.lift.ownAsk + 1#8
  ((s.updLift fun l => { l with ownAsk := n, outstanding := some n }).updCycle
    fun c => { c with deferred := false }).enqueue (.ask n)

/-- An ask that falls due is deferred under a hard hold, and requested otherwise (R8, R15, R131). -/
def State.askDue (s : State) : State :=
  if s.hold = .hard then s.updCycle fun c => { c with deferred := true } else s.requestAsk

/-- Withdraws: DONE with the withdraw flag set, for the outstanding ask or else the own entry, where either exists; the
re-ask timer is stopped (R132). A station that does not use the lift makes no such request (R135). -/
def State.withdraw (s : State) : State :=
  if s.cfg.liftUsed then
    match s.lift.outstanding.or (s.ownEntry.map (·.ask)) with
    | some n => (s.updLift fun l => { l with reAsk := none }).enqueue (.done n true)
    | none => s
  else s

/-- Finishes: DONE with the own entry's ask number, or the latest own ask's where the entry has been dropped, withdraw
flag clear (R11, R132). R131 names the dropped ask number there, which differs after a drop of an entry under an earlier
number: the model takes the latest own ask's (log 34). -/
def State.finish (s : State) : State :=
  if s.cfg.liftUsed then s.enqueue (.done ((s.ownEntry.map (·.ask)).getD s.lift.ownAsk) false) else s

/-! ### The press sequence -/

/-- Enters DEMOULD: the open and dose tick timers stop, D stays as it stands, LIFT_CALL is asserted if the lift is used
(R10). -/
def State.enterDemould (s : State) : State :=
  ((s.updCycle fun c => { c with openTimer := none, doseTimer := none }).updLines
    fun l => { l with liftCall := s.cfg.liftUsed }).setCycle .demould

/-- Enters OPENING: CLOSE_CMD released, OPEN_CMD asserted, open timer started, deferred-ask flag cleared (R8, R9, R15); with
OPENED asserted at entry it goes on to DEMOULD (R10). -/
def State.enterOpening (s : State) : State :=
  let s := ((s.updLines fun l => { l with closeCmd := false, openCmd := true }).updCycle
    fun c => { c with openTimer := some (s.recipe.openTimeout * 1000), deferred := false }).setCycle .opening
  if s.lines.openedIn then s.enterDemould else s

/-- CLOSED taken in CLOSING: the cycle enters CURE (R6). -/
def State.enterCure (s : State) : State :=
  (s.updCycle fun c => { c with
    closeTimer := none, doseTimer := some tDose, elapsed := 0, dose := 0,
    reasons := { c.reasons with curePresent := true } }).setCycle .cure

/-- The blocker of the first failing condition of a close request, in the order of R4. -/
def State.closeBlocker (s : State) : Blocker :=
  if !s.zu.ready then .notReady
  else if s.weigh.staged.isNone then .noCharge
  else if s.hold ≠ .free then .hold
  else if !s.canReserve then .historyFull
  else .clear

/-- The cycle record at a close taken: figures zero, reasons clear, D_req from the charge now in PRESS, close and
hold-second timers started (R5, R25). -/
def closedCycle (c : Cycle) (r : Recipe) (serial mAct : Nat) : Cycle :=
  { c with
    closeTimer := some (r.closeTimeout * 1000), holdTimer := some tSecond
    blocker := .clear, deferred := false, recovery := false, serial := serial, dReq := requiredDose r mAct
    dose := 0, dOver := 0, elapsed := 0, tLow := 0, tHigh := 0, tSeen := false
    curtailed := 0, holdSecs := 0, liftWait := 0, reasons := noReasons }

/-- A close is taken (R5); with CLOSED asserted at entry to CLOSING the cycle goes on to CURE (R6). -/
def State.takeClose (s : State) : State :=
  let s := s.takeCharge.reserve
  let mAct := (s.weigh.press.map fun p => p.total.toNat).getD 0
  let s := s.updCycle fun c => closedCycle c s.recipe (s.hist.reserved.getD 0) mAct
  let s := (s.updLines fun l => { l with closeCmd := true, openCmd := false }).setCycle .closing
  if s.lines.closedIn then s.enterCure else s

/-- Zone Unit reports of readiness gained or lost (R3). -/
def State.readyReport (s : State) (ready : Bool) : State :=
  if ready then (if s.cycle.st = .warming then s.setCycle .loading else s)
  else if s.cycle.st = .loading then s.setCycle .warming else s

/-- Completion of a cure at this tick (R8). DESIGN CHOICE, unsafe (log 42): ASK is queued before the SHARE of the changed
cycle state, in the order in which R8 names them. -/
def State.completeCure (s : State) : State :=
  let s :=
    if s.cycle.dose < s.cycle.dReq then
      (s.updCycle fun c => { c with reasons := { c.reasons with undercure := true } }).raiseKind .undercure
    else s
  if s.cfg.liftUsed then s.askDue.setCycle .liftWait else s.enterOpening

/-- D_over above its limit for the first time in the cycle sets and raises OVERCURE (R26). -/
def State.checkOvercure (s : State) : State :=
  if s.recipe.dOverMax * 1000 < s.cycle.dOver ∧ s.cycle.reasons.overcure = false then
    (s.updCycle fun c => { c with reasons := { c.reasons with overcure := true } }).raiseKind .overcure
  else s

/-- One dose tick (R7). -/
def State.takeDoseTick (s : State) : State :=
  let inCure := s.cycle.st = .cure
  let s := (s.updCycle fun c => tickFigures c s.cureTemp s.recipe.tRef s.share.curtailed).checkOvercure
  if inCure ∧ cureComplete s.cycle s.recipe then s.completeCure else s

/-! ### Reports of the Lift Queue, and holds -/

/-- The own entry, with ask number `n`, has become head: in LIFT_WAIT the press opens (R9), or under a hard hold the station
passes, once for each ask number (R16); in any other state nothing (R125). -/
def State.headReport (s : State) (n : Byte) : State :=
  if s.cycle.st = .liftWait then
    if s.hold = .hard then
      let s := s.updCycle fun c => { c with deferred := true }
      if s.cycle.passed = some n then s
      else ((s.updCycle fun c => { c with passed := some n }).updLift
        fun l => { l with reAsk := none }).enqueue (.done n true)
    else s.enterOpening
  else s

/-- The own entry was removed by a DROP (R31, R131). -/
def State.dropReport (s : State) : State :=
  if s.cycle.st = .liftWait then s.askDue
  else if s.cycle.st = .opening ∨ s.cycle.st = .demould then
    (s.updCycle fun c => { c with reasons := { c.reasons with liftLate := true } }).raiseKind .liftLate
  else s

/-- The own entry has left the view by DONE or by the own LEAVE: an ask deferred behind it is made (R15, R132). The rules
speak of a passed entry; that the ask is made behind any own entry is the model's reading (log 37). -/
def State.leftReport (s : State) : State :=
  if s.cycle.deferred ∧ s.cycle.st = .liftWait ∧ s.hold ≠ .hard then s.requestAsk else s

/-- The hold state may have changed from `old`: a hard-hold release makes a deferred ask where no own entry is in the view
(R13, R15). -/
def State.holdChanged (s : State) (old : Hold) : State :=
  if old = .hard ∧ s.hold ≠ .hard ∧ s.cycle.deferred ∧ s.cycle.st = .liftWait ∧ s.ownEntry.isNone then s.requestAsk
  else s

/-! ### The part record -/

/-- The result of a record completed at the end of a cycle (R30). -/
def resultOf (r : Reasons) : Result :=
  if r.undercure then .reject
  else if r.overcure || r.liftLate || r.zoneLost then .suspect
  else .good

/-- A second count as written: limited to 65535 (R146). -/
def secondsField (n : Nat) : Nat := min 65535 n

/-- The contents handed over for the reserved record: the charge in PRESS and the running figures, the cure fields only
where CURE_PRESENT is set (R28, R29, R147). The History Store adds station, epoch and serial (R145). Total and ply masses
are written as they stand, above the 300 000 of R146 too (log 35). -/
def recordOf (c : Cycle) (charge : Charge) (result : Result) : PartRecord :=
  let cure := c.reasons.curePresent
  { station := 0, epoch := 0, serial := 0, recipe := charge.recipe, result := result, reasons := c.reasons
    total := charge.total, plies := charge.plies, dReq := c.dReq
    dOpen := if cure then c.dose else 0
    dOver := if cure then c.dOver else 0
    cureSecs := if cure then secondsField c.elapsed else 0
    tLow := if cure then c.tLow else 0
    tHigh := if cure then c.tHigh else 0
    curtailed := if cure then secondsField c.curtailed else 0
    holdSecs := secondsField c.holdSecs
    liftWait := if cure then secondsField c.liftWait else 0 }

/-- The record of the part in PRESS is handed to the History Store and PRESS is emptied (R11, R18, R21, R75). -/
def State.closeRecord (s : State) (result : Result) : State :=
  match s.weigh.press with
  | none => s
  | some charge => (s.storeRecord (recordOf s.cycle charge result)).emptyPress

end Sys2Proof.Machine
end

