-- ==== Sys2Proof/Machine/LiftView.lean ====
section
/-! DEFINITION. The lift view: its changes and the head (R119 to R125), what each lift frame does to it (R121 to R124),
reconciliation (R133), the head-hold timer (R126) and the re-ask timer (R129). -/

namespace Sys2Proof.Machine

/-- A head change: the head-hold timer restarts with tHOLD or stops, the head mark becomes NONE, and the own entry as new
head is reported to the Cycle Unit (R125). -/
def State.headChange (s : State) : State :=
  match s.lift.view with
  | [] => s.updLift fun l => { l with headTimer := none, overdue := false }
  | e :: _ =>
    let s := s.updLift fun l => { l with headTimer := some (s.cfg.tHold * 1000), overdue := false }
    if e.station = s.own then s.headReport e.ask else s

/-- The view becomes `v`: the head change it makes is taken (R125), the mark of a passed entry goes with the own entry
(R16), and a change of the own lift position queues SHARE (R99, R130). DESIGN CHOICE, unsafe (log 42): that SHARE is queued
before an ASK which the same event makes of the change. -/
def State.setView (s : State) (v : List LiftEntry) : State :=
  let t := s.updLift fun l => { l with view := v }
  let t := if (ownEntryOf s.own v).isSome then t else t.updCycle fun c => { c with passed := none }
  let t := if v.head? = s.lift.view.head? then t else t.headChange
  if t.ownPos = s.ownPos then t else t.queueShare

/-- The view after station `st` asks, or reports a place, under number `n`: appended at the tail, or renumbered in place
(R121, R133). -/
def viewAfterAsk (view : List LiftEntry) (st : Station) (n : Byte) : List LiftEntry :=
  if view.any (fun e => e.station == st) then
    view.map fun e => if e.station = st then { e with ask := n } else e
  else view ++ [⟨st, n⟩]

/-- The view without station `st` (R124). -/
def viewWithout (view : List LiftEntry) (st : Station) : List LiftEntry := view.filter (fun e => e.station != st)

/-- An ASK is taken (R121); at the own echo the outstanding ask of that number becomes absent. -/
def State.takeAsk (s : State) (st : Station) (n : Byte) : State :=
  let s := if st = s.own ∧ s.lift.outstanding = some n then s.updLift fun l => { l with outstanding := none } else s
  s.setView (viewAfterAsk s.lift.view st n)

/-- A DONE is taken (R122); the own entry's removal is reported to the Cycle Unit (R132). DESIGN CHOICE, unsafe (log 42): the
SHARE of the changed position is queued before a deferred ASK that the report makes, in a queue with one place left too. -/
def State.takeDone (s : State) (st : Station) (n : Byte) : State :=
  if s.lift.view.contains ⟨st, n⟩ then
    let s := s.setView (s.lift.view.erase ⟨st, n⟩)
    if st = s.own then s.leftReport else s
  else s

/-- A DROP is taken: it removes the entry named when that is the head (R123); the own entry's removal is reported to the
Cycle Unit (R131). SHARE comes before an ASK made at the report (log 42). -/
def State.takeDrop (s : State) (holder : Station) (n : Byte) : State :=
  if s.lift.view.head? = some ⟨holder, n⟩ then
    let s := s.setView s.lift.view.tail
    if holder = s.own then s.dropReport else s
  else s

/-- The departure of a station (R124); at the own LEAVE echo the own entry's removal is reported (R132). SHARE comes
before an ASK made at the report (log 42). -/
def State.depart (s : State) (st : Station) : State :=
  let had := s.lift.view.any (fun e => e.station == st)
  let s := s.setView (viewWithout s.lift.view st)
  if had ∧ st = s.own then s.leftReport else s

/-- Reconciliation with the lift position of a peer's SHARE (R133). -/
def State.reconcile (s : State) (p : Station) (pos : LiftPos) : State :=
  match pos with
  | .away => s.setView (viewWithout s.lift.view p)
  | .waiting n => s.setView (viewAfterAsk s.lift.view p n)
  | .holding n => s.setView (viewAfterAsk s.lift.view p n)

/-- The station may send DROP: STANDBY, RUN or TRIPPED, the lift used and the configuration good (R126). -/
def State.maySendDrop (s : State) : Bool := (s.mode != .cold) && s.cfg.liftUsed && s.cfg.good

/-- The head-hold timer expires (R126). -/
def State.headHoldExpiry (s : State) : State :=
  let s := s.updLift fun l => { l with headTimer := none }
  match s.lift.view with
  | [] => s
  | e :: _ =>
    if s.maySendDrop then s.enqueue (.drop e.station e.ask)
    else s.updLift fun l => { l with overdue := true }

/-- At entry to STANDBY, RUN or TRIPPED from COLD, DROP is queued for an OVERDUE head and the mark becomes NONE
(R126). -/
def State.dropOverdue (s : State) : State :=
  if s.lift.overdue && s.maySendDrop then
    match s.lift.view with
    | [] => s
    | e :: _ => (s.updLift fun l => { l with overdue := false }).enqueue (.drop e.station e.ask)
  else s

/-- The re-ask timer expires: the failed ASK is queued again under its number, handed back for deferral under a hard hold,
or given up outside LIFT_WAIT (R129). -/
def State.reAskExpiry (s : State) (n : Byte) : State :=
  let s := s.updLift fun l => { l with reAsk := none }
  if s.cycle.st = .liftWait then
    if s.hold = .hard then s.updCycle fun c => { c with deferred := true }
    else
      ((s.updLift fun l => { l with outstanding := some n }).updCycle
        fun c => { c with deferred := false }).enqueue (.ask n)
  else s

end Sys2Proof.Machine
end

