-- ==== Sys2Proof/Machine/Share.lean ====
section
/-! DEFINITION. The Share Unit: counted values and the effective budget (R84, R85), scaling (R86, R87), the decisions
on the claim (R88 to R97), the starved state (R97, R98) and the mode entries' part (R103). -/

namespace Sys2Proof.Machine

/-! ### What the peers count -/

/-- The entry is FRESH or STALE. -/
def Peer.present (p : Peer) : Bool := p.presence != .absent

/-- The counted committed claim of a peer (R85). -/
def Peer.countedClaim (p : Peer) : Nat :=
  match p.presence with
  | .absent => 0
  | .fresh => if p.held then p.claim else 0
  | .stale => if p.held then p.ceiling else 0

/-- The counted raise claim of a peer (R85). -/
def Peer.countedRaise (p : Peer) : Nat :=
  match p.presence with
  | .absent => 0
  | .fresh => max p.countedClaim (p.bound.getD 0)
  | .stale => p.countedClaim

/-- The weight of a mode and cycle state (R94). -/
def weightOf (mode : Mode) (cycle : CycleState) : Nat :=
  if mode = .tripped then 0 else if cycle = .cure ∨ cycle = .liftWait then 2 else 1

/-- The weight of a peer; 0 while it has held no SHARE or is ABSENT (R94). -/
def Peer.weight (p : Peer) : Nat := if p.present && p.held then weightOf p.mode p.cycle else 0

/-- O_commit (R85). -/
def State.oCommit (s : State) : Nat := ((peerIds s.own).map fun p => (s.peer p).countedClaim).sum

/-- O_raise (R85). -/
def State.oRaise (s : State) : Nat := ((peerIds s.own).map fun p => (s.peer p).countedRaise).sum

/-- The budgets taken into account: those of the entries that are FRESH or STALE and hold one (R84). -/
def State.heardBudgets (s : State) : List Nat :=
  ((peerIds s.own).filter fun p => (s.peer p).present && (s.peer p).held).map fun p => (s.peer p).budget

/-- Recomputes B_eff and the mismatch mark; the mark going from clear to set raises BUDGET_MISMATCH (R84). -/
def State.recount (s : State) : State :=
  let mark := s.heardBudgets.any (fun b => b != s.cfg.budget)
  let t := { s with share := { s.share with bEff := s.heardBudgets.foldl min s.cfg.budget, mismatch := mark } }
  if mark && !s.share.mismatch then t.raiseKind .budgetMismatch else t

/-- W: the own weight and those of the peers that are FRESH or STALE (R94). -/
def State.weightSum (s : State) : Nat :=
  weightOf s.mode s.cycle.st + ((peerIds s.own).map fun p => (s.peer p).weight).sum

/-- The fair share of a station of weight `w` (R94). -/
def State.fairShare (s : State) (w : Nat) : Nat := s.share.bEff * w / s.weightSum

/-! ### Claim, starved state and scaling -/

/-- Sets the committed claim; a change queues SHARE (R99). -/
def State.setClaim (s : State) (c : Nat) : State :=
  if s.share.claim = c then s else { s with share := { s.share with claim := c } }.queueShare

/-- Sets or clears the starved state; a change starts or stops the starve timer, a clearing ends the STARVED condition,
and a change queues SHARE (R97, R98, R99). -/
def State.setStarved (s : State) (b : Bool) : State :=
  if s.share.starved = b then s
  else if b then
    { s with share := { s.share with starved := true, starveTimer := some tStarve } }.queueShare
  else
    { s with share := { s.share with starved := false, starveTimer := none, starvedCond := false } }.queueShare

/-- The scaled duty of a demand `d` under load L and claim C (R87). -/
def scaledDuty (d load claim : Nat) : Nat :=
  if load ≤ 20000 * claim then d else d * (20000 * claim) / load

/-- Scales the duties from the latest demands and the claim, puts them in force, and sets or clears the curtailed mark; a
zone that is not enabled receives 0 (R86, R87, R46). -/
def State.scale (s : State) : State :=
  let duty := fun z : ZoneId =>
    if (s.zoneCfg z).enabled then scaledDuty (s.zone z).d s.share.load s.share.claim else 0
  let t := s.mapZones fun z v => { v with duty := duty z }
  { t with share := { t.share with curtailed := zoneIds.any fun z => decide (duty z < (s.zone z).d) } }

/-! ### Shedding (R93) -/

/-- The shed test, made after every update of the Peer View (R93). -/
def State.shed (s : State) : State :=
  let bound := s.share.bEff - s.oCommit
  if bound < s.share.claim then
    let s := (s.setClaim bound).scale
    let s := if bound < s.share.want then s.setStarved true else s
    s.queueShare
  else s

/-- What the Share Unit does at each update of an entry (R84, R93, R117). -/
def State.handOff (s : State) : State := s.recount.shed

/-! ### Raising (R89 to R92) -/

/-- The commit of the pending raise at the echo of its own RAISE (R90). -/
def State.commitRaise (s : State) : State :=
  match s.share.raising with
  | none => s
  | some q =>
    if s.mode = .standby ∨ s.mode = .run then
      let old := s.share.claim
      let c := min q (s.share.bEff - s.oRaise)
      let s := { s with share := { s.share with raising := none } }
      let s := (s.setClaim c).setStarved (decide (c < q))
      let s := if c < old then s.scale else s
      s.queueShare
    else s

/-! ### The control tick (R86 to R89, R95, R96) -/

/-- L and Q from the demands in the zone table (R86). -/
def State.takeDemands (s : State) : State :=
  let load := (zoneIds.map fun z => if (s.zoneCfg z).enabled then (s.zone z).d * (s.zoneCfg z).power else 0).sum
  { s with share := { s.share with load := load, want := min (ceilDiv load 20000) s.share.ceiling } }

/-- The lowering test (R88): h = max(1, floor(ceiling / 20)). -/
def State.lowerClaim (s : State) : State :=
  if s.share.want + max 1 (s.share.ceiling / 20) ≤ s.share.claim then s.setClaim s.share.want else s

/-- The condition of the yield test (R95). -/
def State.mustYield (s : State) : Bool :=
  ((peerIds s.own).any fun p =>
    decide ((s.peer p).presence = .fresh) && (s.peer p).held && (s.peer p).starved &&
      decide ((s.peer p).claim < s.fairShare (s.peer p).weight)) &&
  decide (s.fairShare (weightOf s.mode s.cycle.st) < s.share.claim)

/-- Yielding (R95). -/
def State.yieldClaim (s : State) : State :=
  let c := max (s.fairShare (weightOf s.mode s.cycle.st)) (s.share.claim - ceilDiv s.share.bEff 16)
  let s := s.setClaim c
  let s := if c < s.share.want then s.setStarved true else s
  s.queueShare

/-- The raise test (R89): made with Q above C and the listen timer expired; room above C queues RAISE(Q), no room marks
the station starved. -/
def State.raiseTest (s : State) : State :=
  if s.share.listen.isNone && decide (s.share.claim < s.share.want) then
    if s.oRaise + s.share.claim < s.share.bEff then
      { s with share := { s.share with raising := some s.share.want } }.enqueue (.raise s.share.want)
    else s.setStarved true
  else s

/-- Steps 3 to 5 of the tick, in STANDBY and RUN (R96). -/
def State.decideClaim (s : State) : State :=
  if s.mode = .standby ∨ s.mode = .run then
    let s := s.lowerClaim
    if s.mustYield then s.yieldClaim else s.raiseTest
  else s

/-- The Share Unit's part of the control tick (R96). The SHARE of step 8 is queued by the changes themselves. -/
def State.shareTick (s : State) : State :=
  let s := s.takeDemands
  let s :=
    match s.share.raising with
    | some _ => s
    | none =>
      let s := s.decideClaim
      if s.share.want ≤ s.share.claim then s.setStarved false else s
  s.scale

/-! ### Mode entries (R103) -/

/-- C becomes 0, the raise is voided, the starved state is cleared and the duties are rescaled: entry to COLD or TRIPPED
(R103). -/
def State.giveUpClaim (s : State) : State :=
  let s := { s with share := { s.share with raising := none } }
  ((s.setClaim 0).setStarved false).scale

end Sys2Proof.Machine
end

