-- ==== Sys2Proof/Machine/Zones.lean ====
section
/-! DEFINITION. The Zone Unit: readings and their effect on a zone (R36 to R39), demand and integrators (R40 to R42),
windows (R43), the current monitor (R47 to R51), readiness (R54 to R56), and the zones' part of mode entries and CLEAR
(R33 to R35, R53). -/

namespace Sys2Proof.Machine

/-! ### Readiness (R54 to R56) -/

/-- The zone is in band: ACTIVE, its latest valid reading within the ready band of the setpoint (R54). -/
def bandOf (sp : Option Int) (band : Int) (z : Zone) : Bool :=
  match sp with
  | none => false
  | some sp => decide (z.state = .active) && z.valid && decide (-band ≤ sp - z.temp) && decide (sp - z.temp ≤ band)

/-- The all-in-band condition (R55). -/
def State.bandCondition (s : State) : Bool :=
  decide (s.mode = .run) && zoneIds.any (fun z => (s.zoneCfg z).enabled) &&
    zoneIds.all fun z => !(s.zoneCfg z).enabled || (s.zone z).inBand

/-- Rewrites the Zone Unit's station-wide record. -/
def State.updZu (s : State) (f : ZoneUnit → ZoneUnit) : State := { s with zu := f s.zu }

/-- The station becomes ready: the soak timer stops and "ready" is reported (R55). -/
def State.becomeReady (s : State) : State :=
  (s.updZu fun u => { u with ready := true, soakTimer := none }).readyReport true

/-- Evaluates the all-in-band condition: its becoming true starts the soak, or with a soak time of 0 makes the station ready
at once; its becoming false ends soak and readiness (R55, R56). -/
def State.judgeReady (s : State) : State :=
  let now := s.bandCondition
  if now = s.zu.allInBand then s
  else if now then
    let s := s.updZu fun u => { u with allInBand := true, soakCount := 0, soakTimer := some tSecond }
    if s.cfg.soak = 0 then s.becomeReady else s
  else
    let was := s.zu.ready
    let s := s.updZu fun u => { u with allInBand := false, soakCount := 0, soakTimer := none, ready := false }
    if was then s.readyReport false else s

/-- Re-evaluates the in-band flag of every zone, and the readiness that follows (R54, R55). -/
def State.judgeBands (s : State) : State :=
  (s.mapZones fun _ z => { z with inBand := bandOf s.setpoint s.cfg.band z }).judgeReady

/-! ### Readings (R36 to R39) -/

/-- The zone state after a valid reading of `t`, or a re-test against a new setpoint, with setpoint `sp` (R37). -/
def stateAfterReading (st : ZoneState) (t sp margin : Int) : ZoneState :=
  match st with
  | .active => if sp + margin < t then .overheat else .active
  | .overheat => if t < sp + margin / 2 then .active else .overheat
  | .sensorFault => if sp + margin < t then .overheat else .active
  | .off => .off
  | .lockedOut => .lockedOut

/-- The mark of a zone that has entered ACTIVE since the latest step, after it goes to `st`: its output waits for the next
step (R45). -/
def enteredAfter (z : Zone) (st : ZoneState) : Bool := z.entered || (decide (st = .active) && decide (z.state ≠ .active))

/-- Puts a zone in state `st`; an entry to OVERHEAT raises OVERHEAT attention (R37). -/
def State.moveZone (s : State) (z : ZoneId) (st : ZoneState) : State :=
  let was := (s.zone z).state
  let s := s.setZone z { s.zone z with state := st, entered := enteredAfter (s.zone z) st }
  if st = .overheat ∧ was ≠ .overheat then s.raiseKind .overheat else s

/-- Tests the latest valid reading of a zone against the setpoint in force (R34, R37). -/
def State.testReading (s : State) (z : ZoneId) : State :=
  match s.setpoint with
  | none => s
  | some sp => s.moveZone z (stateAfterReading (s.zone z).state (s.zone z).temp sp s.cfg.margin)

/-- The state in which an enabled zone leaves OFF or LOCKED_OUT (R35, R53). -/
def leavingState (z : Zone) (sp margin : Int) : ZoneState :=
  if z.lockout then .lockedOut
  else if !z.valid then .sensorFault
  else if sp + margin < z.temp then .overheat
  else .active

/-- An enabled zone leaves its state for the one its mark and reading give (R35, R53). -/
def State.leaveOff (s : State) (z : ZoneId) : State :=
  match s.setpoint with
  | none => s
  | some sp => if (s.zoneCfg z).enabled then s.moveZone z (leavingState (s.zone z) sp s.cfg.margin) else s

/-- The reading of a zone is lost or reported faulty: not valid, and an ACTIVE or OVERHEAT zone enters SENSOR_FAULT
(R36, R38). -/
def faultedReading (z : Zone) : Zone :=
  { z with
    valid := false
    state := if z.state = .active ∨ z.state = .overheat then .sensorFault else z.state }

/-! ### Demand and integrators (R40 to R42) -/

/-- The limited error of R41. -/
def limitedError (sp t : Int) : Int := clamp (sp - t) (-1000) 1000

/-- The demand of a zone at a control tick: by R41 in ACTIVE, 0 in any other state (R40). -/
def demandOf (sp : Option Int) (c : ZoneCfg) (z : Zone) : Nat :=
  match sp with
  | none => 0
  | some sp =>
    if z.state = .active then
      (clamp ((limitedError sp z.temp * (c.kp : Int)).tdiv 64 + z.integ / 16) 0 200).toNat
    else 0

/-- The integrator of a zone after the tick (R42). -/
def integAfter (sp : Option Int) (c : ZoneCfg) (z : Zone) : Int :=
  match sp with
  | none => z.integ
  | some sp =>
    let e := limitedError sp z.temp
    if z.state ≠ .active then z.integ
    else if z.duty < z.d ∨ (z.d = 200 ∧ 0 < e) ∨ (z.d = 0 ∧ e < 0) then z.integ
    else clamp (z.integ + (e * (c.ki : Int)).tdiv 256) 0 3200

/-- The control tick: demands, the Share Unit's decisions and scaling, the duties in force, the integrators (R40,
R96). -/
def State.takeControlTick (s : State) : State :=
  let s := (s.mapZones fun z v => { v with d := demandOf s.setpoint (s.zoneCfg z) v }).shareTick
  s.mapZones fun z v => { v with integ := integAfter s.setpoint (s.zoneCfg z) v }

/-! ### Windows and the current monitor (R33, R43, R47 to R51) -/

/-- The offset of a zone: (25 z + 12 s) mod 200 (R33). -/
def offsetOf (z : ZoneId) (own : Station) : Nat := (25 * z.val + 12 * own.val) % 200

/-- Zone control starts: offsets, lead-ins, the control tick timer, and the first control tick (R33, R40, R43). -/
def State.startZoneControl (s : State) : State :=
  let s := s.mapZones fun z v => { v with
    offset := offsetOf z s.own
    pos := if offsetOf z s.own = 0 then .step 0 else .leadIn (offsetOf z s.own) }
  (s.updZu fun u => { u with control := some tControl }).takeControlTick

/-- The window has ended: its last step, 199, has been taken (R43). -/
def Zone.windowOver (z : Zone) : Bool := decide (z.pos = .step 199)

/-- The lead-in has run out: its last step has been taken (R43). -/
def Zone.leadInOver (z : Zone) : Bool := decide (z.pos = .leadIn 1)

/-- An open window increased the count: it locks the zone out at the threshold, and raises ZONE_FAULT there and at a count
of 1 (R49). A zone that is OFF in COLD or TRIPPED stays OFF with its lockout mark set (R35, log 10). -/
def State.escalate (s : State) (z : ZoneId) : State :=
  let v := s.zone z
  if v.opens = s.cfg.escalation then
    (s.setZone z { v with
      lockout := true
      state := if v.state = .off then .off else .lockedOut }).raiseKind .zoneFault
  else if v.opens = 1 then s.raiseKind .zoneFault
  else s

/-- The judgment of a window at its end: good, open or neutral (R48, R49), the next window beginning (R43). DEDUCED, unsafe
(log 39): the table of R48 judges, so that a window with 5 on-steps or fewer whose on-steps count, their on-run having come
over from the window before, is good or open, where the sentence below that table calls it neutral. -/
def State.endWindow (s : State) (z : ZoneId) : State :=
  let v := s.zone z
  let next : Zone := { v with pos := .begins, onStep := false, seen := false }
  if !v.onStep then s.setZone z next
  else if v.seen then s.setZone z { next with opens := 0 }
  else ((s.setZone z { next with opens := min 5 (v.opens + 1) }).escalate z).judgeBands

/-- The end of a lead-in or window, where one stands at its end (R43, R48). -/
def State.endDue (s : State) (z : ZoneId) : State :=
  if (s.zone z).windowOver then s.endWindow z
  else if (s.zone z).leadInOver then s.setZone z { s.zone z with pos := .begins }
  else s

/-- The window step advances by one (R43). -/
def posAfter : WinPos → WinPos
  | .idle => .idle
  | .leadIn n => .leadIn (n - 1)
  | .begins => .step 0
  | .step n => .step (n + 1)

/-- The monitor's figures after a sample, with the output's level and the current-sense input in this step: the run
(R47), the window's counting on-steps (R48), the stuck request of the off-run (R50) and the quiet samples (R51). -/
def sampled (z : Zone) (out sense : Bool) : Zone :=
  let same := z.runOn = out
  let len := if same then z.runLen + 1 else 1
  let counting := decide (blankSteps < len)
  let sent := decide same && z.stuckSent
  { z with
    runOn := out, runLen := len
    stuckSent := sent || (!out && counting && sense)
    onStep := z.onStep || (out && counting)
    seen := z.seen || (out && counting && sense)
    quiet := if out || sense then 0 else min 5 (z.quiet + 1) }

/-- The sample hands a STUCK request: the first counting off-step of an off-run that shows current (R50). -/
def stuckNow (z : Zone) (out sense : Bool) : Bool :=
  let len := if z.runOn = out then z.runLen + 1 else 1
  !out && decide (blankSteps < len) && sense && !(decide (z.runOn = out) && z.stuckSent)

/-- A new 10 ms step begins: ends that are due are taken, the window step of every zone advances (R43), and a zone that has
entered ACTIVE switches its output by R44 again (R45). -/
def State.advanceWindows (s : State) : State :=
  (zoneIds.foldl State.endDue s).mapZones fun _ v => { v with pos := posAfter v.pos, entered := false }

/-- Each enabled zone is sampled against its output in this step (R44, R47). -/
def State.sampleZones (s : State) (sense : Byte) : State :=
  s.mapZones fun z v =>
    if (s.zoneCfg z).enabled then sampled v (v.output s.lines.tripOut) (sense.getLsbD z.val) else v

/-- The zones whose sample in this step hands a STUCK request, in ascending order (R50, R181). -/
def State.stuckZones (s : State) (sense : Byte) : List ZoneId :=
  zoneIds.filter fun z => (s.zoneCfg z).enabled && stuckNow (s.zone z) (s.zoneOut z) (sense.getLsbD z.val)

/-- The trip-cause report says "causes gone" (R51). -/
def State.causesGone (s : State) : Bool :=
  zoneIds.all fun z =>
    !(s.zoneCfg z).enabled || (!(s.zone z).overLimit && decide (5 ≤ (s.zone z).quiet))

/-! ### Mode entries and CLEAR (R35, R53) -/

/-- Entry to COLD: every zone OFF (R35). -/
def State.zonesCold (s : State) : State := (s.mapZones fun _ z => { z with state := .off }).judgeBands

/-- Entry to TRIPPED: every zone OFF with its integrator at 0 (R35, R52). -/
def State.zonesTripped (s : State) : State :=
  (s.mapZones fun _ z => { z with state := .off, integ := 0 }).judgeBands

/-- Tests every ACTIVE or OVERHEAT zone with a valid reading against a setpoint that has changed from `oldSp` (R34). -/
def State.retestZones (s : State) (oldSp : Option Int) : State :=
  if s.setpoint = oldSp then s
  else zoneIds.foldl (fun s z =>
    if (s.zone z).valid ∧ ((s.zone z).state = .active ∨ (s.zone z).state = .overheat) then s.testReading z else s) s

/-- Entry to STANDBY or RUN: from COLD or TRIPPED each enabled zone leaves OFF (R35); between STANDBY and RUN the zones that
are ACTIVE or OVERHEAT are tested against a changed setpoint (R34). The in-band flags and readiness follow (R56). -/
def State.zonesHot (s : State) (fromMode : Mode) (oldSp : Option Int) : State :=
  let s :=
    if fromMode = .cold ∨ fromMode = .tripped then zoneIds.foldl State.leaveOff s
    else s.retestZones oldSp
  s.judgeBands

/-- The zones' part of CLEAR (R53). -/
def State.clearZones (s : State) : State :=
  let locked := zoneIds.filter fun z => decide ((s.zone z).state = .lockedOut)
  let s := s.mapZones fun _ z => { z with lockout := false, opens := 0 }
  (locked.foldl State.leaveOff s).judgeBands

end Sys2Proof.Machine
end

