-- ==== Sys2Proof/Machine/Modes.lean ====
section
/-! DEFINITION. The Mode logic: mode entries (R177) in the order of its table's blocks, the pending mode (R176), entry to
FAULTED (R18), the trip (R180, R181), CLEAR (R21, R182), the end of a cycle (R11) and mode requests (R175). -/

namespace Sys2Proof.Machine

/-- Rewrites the Mode logic's record. -/
def State.updMl (s : State) (f : ModeLogic → ModeLogic) : State := { s with ml := f s.ml }

/-- A mode entry puts a cycle in WARMING or LOADING in IDLE, the close blocker becoming NONE (R2, R4). -/
def State.cycleToIdle (s : State) : State :=
  if s.cycle.st = .warming ∨ s.cycle.st = .loading then
    (s.updCycle fun c => { c with blocker := .clear }).setCycle .idle
  else s

/-- Entry to COLD (R177): the raw flags are cleared (R187), the cycle goes to IDLE (R2), the zones are OFF (R35), weighing
stops and BUILD and STAGED are discarded (R59, R78), the claim is given up, the SHARE timer stops and LEAVE is queued
(R101, R103), the re-ask timer stops (R136), and the wake timer starts (R178). CHARGE_DISCARDED is raised after the
clearing (R78), and the level flags stand again at the end (R187). -/
def State.enterCold (s : State) : State :=
  let held := s.chargeHeld
  let s := s.clearFlags.updMl fun m => { m with
    mode := .cold
    wakeTimer := if 0 < s.cfg.wakeMinutes ∧ s.cfg.good then some (s.cfg.wakeMinutes * 60000) else none }
  let s := s.cycleToIdle.zonesCold.stopWeighing.giveUpClaim
  let s := { s with share := { s.share with shareTimer := none } }.enqueue .leave
  let s := s.updLift fun l => { l with reAsk := none }
  (if held then s.raiseKind .chargeDiscarded else s).resetLevels

/-- What an entry to STANDBY, RUN or TRIPPED from COLD starts in the Weigh Unit (R59) and the Share Unit (R100). -/
def State.wakeBlocks (s : State) (fromMode : Mode) : State :=
  if fromMode = .cold then
    let s := s.startWeighing
    { s with share := { s.share with shareTimer := some tShare } }
  else s

/-- Entry to STANDBY or RUN (R177): the wake timer stops, the cycle moves (R2), the zones follow the setpoint (R34, R35),
from COLD weighing and the SHARE timer start (R59, R100) and an OVERDUE head is dropped (R126), SHARE is queued (R103),
and the first such entry after power-on starts zone control (R33). -/
def State.enterHot (s : State) (m : Mode) : State :=
  let was := s.mode
  let oldSp := s.setpoint
  let s := s.updMl fun l => { l with mode := m, wakeTimer := none }
  let s :=
    if m = .run then
      (if s.cycle.st = .idle then s.setCycle (if s.zu.ready then .loading else .warming) else s)
    else s.cycleToIdle
  let s := ((s.zonesHot was oldSp).wakeBlocks was).queueShare
  let s := if was = .cold then s.dropOverdue else s
  if s.zoneControl then s else s.startZoneControl

/-- A mode entry other than a trip's (R177). TRIPPED is entered by a trip alone (R180). -/
def State.enterMode (s : State) (m : Mode) : State :=
  match m with
  | .cold => s.enterCold
  | .standby => s.enterHot .standby
  | .run => s.enterHot .run
  | .tripped => s

/-- The pending mode is cleared and entered, at the emptying of PRESS (R176). -/
def State.applyPending (s : State) : State :=
  match s.ml.pendingMode with
  | none => s
  | some m => (s.updMl fun l => { l with pendingMode := none }).enterMode m

/-- OPEN_CMD and the recovery-opening flag: asserted and set as a recovery opening where `want` holds and OPENED is not
asserted, else released and cleared (R12, R18, R21). -/
def State.setRecovery (s : State) (want : Bool) : State :=
  let on := want && !s.lines.openedIn
  (s.updLines fun l => { l with openCmd := on }).updCycle fun c => { c with recovery := on }

/-- All cycle timers stop (R18, R21). -/
def stopTimers (c : Cycle) : Cycle :=
  { c with closeTimer := none, openTimer := none, doseTimer := none, holdTimer := none }

/-- Entry to FAULTED, by an expired press timer where `timeout` holds and else by a trip (R18). -/
def State.enterFaulted (s : State) (timeout : Bool) : State :=
  let s := s.updCycle stopTimers
  let s := s.updLines fun l => { l with closeCmd := false, liftCall := false }
  let s := s.setRecovery (s.lines.closedIn || decide (s.cycle.st = .opening))
  let s := s.withdraw.updCycle fun c => { c with deferred := false }
  let s := if s.pressOccupied then (s.closeRecord .aborted).applyPending else s
  let s := if timeout then s.raiseKind .pressTimeout else s
  s.setCycle .faulted

/-- The end of a cycle at PART_CLEAR in DEMOULD (R11). -/
def State.endCycle (s : State) : State :=
  let s := s.finish.updLines fun l => { l with liftCall := false, openCmd := false }
  let s := s.updCycle fun c => { c with holdTimer := none }
  let s := s.closeRecord (resultOf s.cycle.reasons)
  match s.ml.pendingMode with
  | some _ => (s.applyPending.updCycle fun c => { c with blocker := .clear }).setCycle .idle
  | none => s.setCycle (if s.zu.ready then .loading else .warming)

/-! ### The trip (R180, R181) -/

/-- Entry to TRIPPED, handed to every block (R177, R180 step 3). A cycle already FAULTED stays so (R19). -/
def State.enterTripped (s : State) : State :=
  let was := s.mode
  let s := s.updMl fun l => { l with mode := .tripped }
  let s := if s.cycle.st = .faulted then s else s.enterFaulted false
  let s := (s.zonesTripped.wakeBlocks was).giveUpClaim.queueShare
  let s := s.updLift fun l => { l with reAsk := none }
  if was = .cold then s.dropOverdue else s

/-- A trip request is taken: outside TRIPPED the steps of R180, and in TRIPPED one further TRIP (R181). DESIGN CHOICE, unsafe
(log 43): the SHARE that the changes of step 3 queue (R99, R177) is admitted before the TRIP of step 4, so that in a queue
with one place left and nothing to displace SHARE takes it and TRIP is dropped. -/
def State.takeTrip (s : State) (cause : TripCause) (zone : ZoneId) : State :=
  if s.mode = .tripped then s.enqueue (.trip cause zone)
  else
    let s := s.updLines fun l => { l with tripOut := true }
    let s := s.updMl fun l => { l with pendingMode := none, wakeTimer := none }
    let s := s.enterTripped.enqueue (.trip cause zone)
    s.queueShare.raiseKind .tripped

/-! ### CLEAR (R21, R182) -/

/-- The Mode logic's part of CLEAR: a trip whose causes are gone is released to STANDBY (R182). -/
def State.releaseTrip (s : State) : State :=
  if s.mode = .tripped ∧ s.causesGone then
    (s.updLines fun l => { l with tripOut := false }).enterMode .standby
  else s

/-- The cycle state that CLEAR leaves, by the mode that results (R21). -/
def State.cycleAfterClear (s : State) : CycleState :=
  if s.mode = .run then (if s.zu.ready then .loading else .warming) else .idle

/-- CLEAR, by the input or addressed, as one event (R21, R53, R136, R158, R182, R187). -/
def State.clearEvent (s : State) : State :=
  let s := s.clearFlags.updCycle stopTimers
  let s := s.updLines fun l => { l with closeCmd := false, liftCall := false }
  let s := s.setRecovery s.lines.closedIn
  let s := s.withdraw.updCycle fun c => { c with deferred := false }
  let s := s.updLift fun l => { l with reAsk := none }
  let s := if s.pressOccupied then (s.closeRecord .aborted).applyPending else s
  let s := s.clearZones.releaseTrip
  let s := (s.setCycle s.cycleAfterClear).updCycle fun c => { c with blocker := .clear }
  { s with line := { s.line with errors := 0 } }.resetLevels

/-! ### Mode requests (R175, R176) -/

/-- The rank of the modes other than TRIPPED: COLD below STANDBY below RUN (R175). -/
def modeRank : Mode → Nat
  | .cold => 0
  | .standby => 1
  | .run => 2
  | .tripped => 3

/-- The intended mode: the pending mode where one is present, and the mode in force otherwise (R175). -/
def State.intended (s : State) : Mode := s.ml.pendingMode.getD s.mode

/-- The station goes to a target mode (R176). -/
def State.goTo (s : State) (target : Mode) : State :=
  if !s.pressOccupied then s.enterMode target
  else if target = s.mode then s.updMl fun l => { l with pendingMode := none }
  else s.updMl fun l => { l with pendingMode := some target }

/-- A WAKE or START with its target, and the outcome (R175). -/
def State.requestUp (s : State) (target : Mode) : State × Verdict :=
  if s.mode = .tripped ∨ s.cfg.good = false then (s, .refusedMode)
  else if modeRank s.intended < modeRank target then (s.goTo target, .taken)
  else (s, .taken)

/-- A REST with its target, and the outcome (R175). -/
def State.requestDown (s : State) (target : Mode) : State × Verdict :=
  if s.mode = .tripped then (s, .refusedMode)
  else if modeRank target < modeRank s.intended then (s.goTo target, .taken)
  else (s, .taken)

end Sys2Proof.Machine
end

