-- ==== Sys2Proof/Machine/Receive.lean ====
section
/-! DEFINITION. Taking a frame from the line: the slot reference (R161), the conflict frame (R116), presence (R106,
R107), what SHARE, RAISE, LEAVE and FORGET do to the entries (R109 to R115), delivery to the other blocks (R159, R195)
and the answers of addressed commands (R169, R170). -/

namespace Sys2Proof.Machine

/-- A command that acts only once the start sequence has ended (R195). -/
def State.whileRunning (s : State) (f : State → State) : State := if s.power = .running then f s else s

/-- The line falls idle, with this last sender (R161). -/
def State.setReference (s : State) (sender : Station) : State :=
  { s with line := { s.line with idle := true, lastSender := sender } }

/-! ### Presence and content (R106 to R115) -/

/-- A peer entry after any frame from that peer (R107). An entry that leaves ABSENT has every field at its ABSENT
value. -/
def Peer.heard (p : Peer) : Peer :=
  match p.presence with
  | .absent => { absentPeer with presence := .fresh, age := some tStale }
  | .fresh => { p with age := some tStale }
  | .stale => { p with presence := .fresh, age := some tStale }

/-- The entry of the source is made present and FRESH (R106, R107). -/
def State.freshen (s : State) (src : Station) : State := s.setPeer src (s.peer src).heard

/-- An entry becomes ABSENT (R112, R113). -/
def State.makeAbsent (s : State) (p : Station) : State := s.setPeer p absentPeer

/-- The fields of a SHARE that have codes, where each holds a defined value (R109, R197). -/
def shareFields (mode cycle flags ask : Byte) : Option (Mode × CycleState × LiftPos) :=
  match modeOf mode.toNat, cycleOf cycle.toNat, posOf flags ask with
  | some m, some c, some p => some (m, c, p)
  | _, _, _ => none

/-- A SHARE with other ceiling or budget than the entry holds (R115). -/
def Peer.conflictsWith (p : Peer) (ceiling budget : Nat) : Bool :=
  p.held && ((p.ceiling != ceiling) || (p.budget != budget))

/-- The conflict count after a conflicting SHARE (R115). -/
def conflictsAfter (n : Nat) : Nat := min 255 (n + 1)

/-- The conflict counts at which STATION_CONFLICT is raised (R115). -/
def conflictShown (n : Nat) : Bool := decide (n = 1) || decide (n % 16 = 0)

/-- The content of a SHARE acts on the entry of its source; one with an undefined field is taken for presence alone
(R109, R115). -/
def State.viewShare (s : State) (src : Station) (claim ceiling budget : Nat) (mode cycle flags ask : Byte) : State :=
  match shareFields mode cycle flags ask with
  | none => s
  | some (m, c, pos) =>
    let p := s.peer src
    let conflict := p.conflictsWith ceiling budget
    let count := if conflict then conflictsAfter p.conflicts else p.conflicts
    let s := if conflict && conflictShown count then s.raiseKind .stationConflict else s
    s.setPeer src { p with
      held := true, claim := claim, bound := none, ceiling := ceiling, budget := budget,
      starved := starvedOf flags, mode := m, cycle := c, pos := pos, conflicts := count }

/-- The content of a RAISE sets or raises the bound of its source (R110). -/
def State.viewRaise (s : State) (src : Station) (claim : Nat) : State :=
  let p := s.peer src
  s.setPeer src { p with bound := some (max (p.bound.getD 0) claim) }

/-- The peer that a FORGET names: a station number other than the own (R113, R114). -/
def State.forgotten (s : State) (number : Byte) : Option Station :=
  match stationOf number with
  | some p => if p = s.own then none else some p
  | none => none

/-- The content of a FORGET acts on the entry of the peer it names (R113). -/
def State.viewForget (s : State) (number : Byte) : State :=
  match s.forgotten number with
  | some p => s.makeAbsent p
  | none => s

/-! ### Delivery (R116, R159, R195) -/

/-- An intact frame from the line is taken, without supply by no block. Its end sets the slot reference (R161). A frame
with the own source is a conflict frame: STATION_CONFLICT is raised and the frame is ignored (R116). Any other makes
its source FRESH, then `view` acts on the entries and the Share Unit is handed the update (R106, R117), then `lift` acts
on the lift view, and, once the start sequence has ended, `act` on the other blocks (R159, R195). -/
def State.receive (s : State) (src : Station) (view lift act : State → State) : State :=
  if s.power = .off then s
  else
    let s := s.setReference src
    if src = s.own then s.raiseKind .stationConflict
    else (lift (view (s.freshen src)).handOff).whileRunning act

/-- A frame taken for presence alone (R106, R159). -/
def State.receivePresence (s : State) (src : Station) : State := s.receive src id id id

/-- The answer of an addressed command, to its sender (R169). -/
def State.answer (s : State) (src : Station) (kind : Byte) (v : Verdict) : State := s.enqueue (.answer src kind v)

/-- A WAKE or REST whose target is not among those defined for its kind: answered REFUSED_RANGE where it was addressed,
ignored where it was sent to all (R170). -/
def State.badTarget (s : State) (src : Station) (dst kind : Byte) : State :=
  if addressedTo dst s.own then s.answer src kind .refusedRange else s

/-- A mode request from the line with its outcome: answered where it was addressed, and by none where it was sent to all
(R175). -/
def State.answered (r : State × Verdict) (src : Station) (dst kind : Byte) : State :=
  if addressedTo dst r.1.own then r.1.answer src kind r.2 else r.1

/-- A change of the line hold, and the hard-hold release it may make (R13, R15). -/
def State.setLineHold (s : State) (h : Hold) : State :=
  let old := s.hold
  (s.updCycle fun c => { c with lineHold := h }).holdChanged old

/-! ### SELECT and QUERY -/

/-- The station is busy for a SELECT (R76). -/
def State.selectBusy (s : State) : Bool :=
  s.chargeHeld || s.pressOccupied ||
    !(decide (s.cycle.st = .idle) || decide (s.cycle.st = .warming) || decide (s.cycle.st = .loading))

/-- The recipe a SELECT names, where it is configured (R76). -/
def State.recipeNamed (s : State) (recipe : Byte) : Option (Fin 8) :=
  if h : recipe.toNat < 8 then
    if recipe.toNat < s.cfg.recipeCount then some ⟨recipe.toNat, h⟩ else none
  else none

/-- An addressed SELECT, with its outcome (R76, R77). In RUN a new setpoint re-tests the zones (R34), and the in-band
flags and readiness follow (R56). -/
def State.select (s : State) (recipe : Byte) : State × Verdict :=
  match s.recipeNamed recipe with
  | none => (s, .refusedRange)
  | some r =>
    if s.selectBusy then (s, .refusedBusy)
    else
      let old := s.setpoint
      (((s.setWeigh { s.weigh with recipe := r }).retestZones old).judgeBands, .taken)

/-- The REPORT payload as the station stands (R171, R197). -/
def State.reportPayload (s : State) : List Byte :=
  [BitVec.ofNat 8 (modeCode s.mode + bitIf s.share.starved 4 + bitIf s.weigh.staged.isSome 8 +
      blockerCode s.cycle.blocker * 16),
    BitVec.ofNat 8 (cycleCode s.cycle.st),
    BitVec.ofNat 8 (buildCode s.weigh.build.state + s.weigh.build.plies.length * 8)] ++
  beBytesInt 3 (s.weigh.latest - s.weigh.tare) ++ beBytes 2 s.share.claim ++ beBytes 2 s.attn.raw.toNat ++
  [BitVec.ofNat 8 s.hist.stored.length, BitVec.ofNat 8 s.hist.free]

/-! ### Echoes and failed activity (R158, R162, R163) -/

/-- The receive error count after one more failed activity (R158). -/
def errorsAfter (n : Nat) : Nat := min 255 (n + 1)

/-- One frame has failed the check or the form: the count increases, and LINE_ERRORS is raised where it reaches a
multiple of 16 (R158). -/
def State.countError (s : State) : State :=
  let n := s.line.errors
  let s := { s with line := { s.line with errors := errorsAfter n } }
  if n < 255 ∧ errorsAfter n % 16 = 0 then s.raiseKind .lineErrors else s

/-- Another RAISE waits behind the one that has echoed: the pending raise is that newer one (R90, log 23). -/
def raiseWaits (q : List Entry) : Bool := q.any fun e => e.msg.isRaise && !e.inFlight

/-- The own echo is delivered to the block that owns the message (R159): RAISE commits (R90), ASK, DONE and DROP act on
the lift view (R121 to R123), LEAVE is the departure of the own entry (R124), and a class 3 entry that leaves lets a
waiting piece be offered (R151, R152). -/
def State.deliverEcho (s : State) (m : Msg) : State :=
  match m with
  | .raise _ => if raiseWaits s.line.queue then s else s.commitRaise
  | .ask n => s.takeAsk s.own n
  | .done n _ => s.takeDone s.own n
  | .drop holder n => s.takeDrop holder n
  | .leave => s.depart s.own
  | .share .. | .trip .. => s
  | .part .. | .hdata .. | .hnone .. | .hbusy _ | .report .. | .alert _ | .answer .. => s.class3Left m

/-- A newer waiting entry of the same coalescing kind supersedes a failed one (R166). -/
def superseded (q : List Entry) (m : Msg) : Bool := q.any fun e => !e.inFlight && e.msg.coalesces m

/-- The owner acts at a final drop (R163): RAISE (R91) and ASK (R129) are told, DROP is queued again for the same head
(R127), and a class 3 entry that leaves lets a waiting piece be offered (R151, R152). -/
def State.finalDrop (s : State) (m : Msg) : State :=
  match m with
  | .drop holder n => if s.lift.view.head? = some ⟨holder, n⟩ then s.enqueue (.drop holder n) else s
  | .raise _ | .ask _ => s.tellOwner m
  | .share .. | .leave | .done .. | .trip .. => s
  | .part .. | .hdata .. | .hnone .. | .hbusy _ | .report .. | .alert _ | .answer .. => s.class3Left m

/-- Rewrites the transmit queue. -/
def State.setQueue (s : State) (q : List Entry) : State := { s with line := { s.line with queue := q } }

/-- The entry in flight, `e`, has failed its echo (R162, R166). -/
def State.failedEcho (s : State) (e : Entry) : State :=
  if superseded s.line.queue e.msg then s.setQueue (dropInFlight s.line.queue)
  else if e.attempts + 1 < attemptLimit then s.setQueue (returnInFlight s.line.queue)
  else (s.setQueue (dropInFlight s.line.queue)).finalDrop e.msg

end Sys2Proof.Machine
end

