-- ==== Sys2Proof/Machine/FrameCommands.lean ====
section
/-! DEFINITION. The frames received from the line, one meaning for each kind and form (R106, R159, R168, R195). -/

namespace Sys2Proof.Machine

/-- SHARE: the entry is overwritten (R109, R115), and the lift view is reconciled (R133). -/
def execRxShare (src : Station) (_dst : Byte) (claim ceiling budget : Half) (mode cycle flags ask : Byte)
    (s : State) : Host.Outcome State Fault Refusal :=
  .next (s.receive src
    (fun s => s.viewShare src claim.toNat ceiling.toNat budget.toNat mode cycle flags ask)
    (fun s =>
      match shareFields mode cycle flags ask with
      | some (_, _, pos) => s.reconcile src pos
      | none => s)
    id)

/-- RAISE: the raise bound of its source is set or raised (R110). -/
def execRxRaise (src : Station) (_dst : Byte) (claim : Half) (s : State) : Host.Outcome State Fault Refusal :=
  .next (s.receive src (fun s => s.viewRaise src claim.toNat) id id)

/-- LEAVE: its source becomes ABSENT (R112) and departs from the lift view (R124). -/
def execRxLeave (src : Station) (_dst : Byte) (s : State) : Host.Outcome State Fault Refusal :=
  .next (s.receive src (fun s => s.makeAbsent src) (fun s => s.depart src) id)

/-- ASK: its source joins the lift view, or is renumbered in it (R121). -/
def execRxAsk (src : Station) (_dst ask : Byte) (s : State) : Host.Outcome State Fault Refusal :=
  .next (s.receive src id (fun s => s.takeAsk src ask) id)

/-- DONE: the entry of its source under that number leaves the lift view; the withdraw flag changes nothing here
(R122). -/
def execRxDone (src : Station) (_dst ask _flags : Byte) (s : State) : Host.Outcome State Fault Refusal :=
  .next (s.receive src id (fun s => s.takeDone src ask) id)

/-- DROP: the entry named leaves the lift view where it is the head (R123). -/
def execRxDrop (src : Station) (_dst holder ask : Byte) (s : State) : Host.Outcome State Fault Refusal :=
  .next (s.receive src id
    (fun s =>
      match stationOf holder with
      | some h => s.takeDrop h ask
      | none => s)
    id)

/-- PART: presence alone (R149, R159). -/
def execRxPart (src : Station) (_dst : Byte) (_epoch : Half) (_serial : Wide) (_result : Byte) (s : State) :
    Host.Outcome State Fault Refusal := .next (s.receivePresence src)

/-- HGET: served by the History Store where it is addressed to this station (R150). -/
def execRxHget (src : Station) (dst selector : Byte) (serial : Wide) (s : State) :
    Host.Outcome State Fault Refusal :=
  .next (s.receive src id id fun s =>
    if addressedTo dst s.own then s.serveHget src selector serial.toNat else s)

/-- HDATA: presence alone (R159). -/
def execRxHdata (src : Station) (_dst : Byte) (_serialLow : Half) (_piece : Byte) (_data : Vector Byte 9)
    (s : State) : Host.Outcome State Fault Refusal := .next (s.receivePresence src)

/-- HTAKE: the record of that serial is discarded where the frame is addressed to this station (R153). -/
def execRxHtake (src : Station) (dst : Byte) (serial : Wide) (s : State) : Host.Outcome State Fault Refusal :=
  .next (s.receive src id id fun s => if addressedTo dst s.own then s.serveHtake serial.toNat else s)

/-- HNONE: presence alone (R159). -/
def execRxHnone (src : Station) (_dst _reason : Byte) (s : State) : Host.Outcome State Fault Refusal :=
  .next (s.receivePresence src)

/-- HBUSY: presence alone (R159). -/
def execRxHbusy (src : Station) (_dst : Byte) (s : State) : Host.Outcome State Fault Refusal :=
  .next (s.receivePresence src)

/-- WAKE: a mode request with target RUN or STANDBY (R170, R175). -/
def execRxWake (src : Station) (dst target : Byte) (s : State) : Host.Outcome State Fault Refusal :=
  .next (s.receive src id id fun s =>
    if takenHere dst s.own then
      match modeOf target.toNat with
      | some .run => State.answered (s.requestUp .run) src dst kindWake
      | some .standby => State.answered (s.requestUp .standby) src dst kindWake
      | _ => s.badTarget src dst kindWake
    else s)

/-- REST: a mode request with target STANDBY or COLD (R170, R175). -/
def execRxRest (src : Station) (dst target : Byte) (s : State) : Host.Outcome State Fault Refusal :=
  .next (s.receive src id id fun s =>
    if takenHere dst s.own then
      match modeOf target.toNat with
      | some .standby => State.answered (s.requestDown .standby) src dst kindRest
      | some .cold => State.answered (s.requestDown .cold) src dst kindRest
      | _ => s.badTarget src dst kindRest
    else s)

/-- HOLD: the line hold takes the strength carried (R13); any other strength byte is taken for presence alone
(R197). -/
def execRxHold (src : Station) (dst strength : Byte) (s : State) : Host.Outcome State Fault Refusal :=
  .next (s.receive src id id fun s =>
    if takenHere dst s.own then
      if strength = 0#8 then s.setLineHold .soft
      else if strength = 1#8 then s.setLineHold .hard
      else s
    else s)

/-- RELEASE: the line hold becomes NONE (R13). -/
def execRxRelease (src : Station) (dst : Byte) (s : State) : Host.Outcome State Fault Refusal :=
  .next (s.receive src id id fun s => if takenHere dst s.own then s.setLineHold .free else s)

/-- CLEAR, addressed: as the CLEAR input, and answered TAKEN, or REFUSED_CAUSE where the station stays TRIPPED (R21,
R182). -/
def execRxClear (src : Station) (dst : Byte) (s : State) : Host.Outcome State Fault Refusal :=
  .next (s.receive src id id fun s =>
    if addressedTo dst s.own then
      let s := s.clearEvent
      s.answer src kindClear (if s.mode = .tripped then .refusedCause else .taken)
    else s)

/-- SELECT, addressed: the active recipe is chosen, and the outcome answered (R76, R77). -/
def execRxSelect (src : Station) (dst recipe : Byte) (s : State) : Host.Outcome State Fault Refusal :=
  .next (s.receive src id id fun s =>
    if addressedTo dst s.own then
      let r := s.select recipe
      r.1.answer src kindSelect r.2
    else s)

/-- QUERY, addressed: REPORT as the station stands is queued to its sender (R171). -/
def execRxQuery (src : Station) (dst : Byte) (s : State) : Host.Outcome State Fault Refusal :=
  .next (s.receive src id id fun s =>
    if addressedTo dst s.own then s.enqueue (.report src s.reportPayload) else s)

/-- REPORT: presence alone (R159). -/
def execRxReport (src : Station) (_dst : Byte) (_payload : Vector Byte 12) (s : State) :
    Host.Outcome State Fault Refusal := .next (s.receivePresence src)

/-- FORGET: sent to all, the peer named becomes ABSENT and departs (R113, R124). Addressed to this station, the entry
becomes ABSENT and the outcome is answered; no departure is made (R114, R124, log 13); in the start sequence an
addressed one is taken for presence alone (R195, log 14). -/
def execRxForget (src : Station) (dst number : Byte) (s : State) : Host.Outcome State Fault Refusal :=
  .next (s.receive src
    (fun s =>
      if toAll dst || (addressedTo dst s.own && decide (s.power = .running)) then s.viewForget number else s)
    (fun s =>
      if toAll dst then
        match s.forgotten number with
        | some p => s.depart p
        | none => s
      else s)
    (fun s =>
      if addressedTo dst s.own then
        s.answer src kindForget (if (s.forgotten number).isSome then .taken else .refusedRange)
      else s))

/-- ALERT: presence alone (R185). -/
def execRxAlert (src : Station) (_dst _kind : Byte) (s : State) : Host.Outcome State Fault Refusal :=
  .next (s.receivePresence src)

/-- TRIP: presence alone (R181). -/
def execRxTrip (src : Station) (_dst _cause _zone : Byte) (s : State) : Host.Outcome State Fault Refusal :=
  .next (s.receivePresence src)

/-- ANSWER: presence alone (R159). -/
def execRxAnswer (src : Station) (_dst _kind _outcome : Byte) (s : State) : Host.Outcome State Fault Refusal :=
  .next (s.receivePresence src)

end Sys2Proof.Machine
end

