-- ==== Sys2Proof/Machine/LineCommands.lean ====
section
/-! DEFINITION. The rest of the Line Unit's events: conflict frames (R116), failed activity (R158, R161), access slots
(R160, R165), the own echo (R162, R163), the offer of a piece (R151) and the start of activity (R160). -/

namespace Sys2Proof.Machine

/-- CONFLICT_FRAME: an intact frame with the own source, heard while this station was not sending, sets the slot
reference, raises STATION_CONFLICT and acts nowhere (R116, R161). -/
def execConflictFrame (s : State) : Host.Outcome State Fault Refusal :=
  .next (if s.power = .off then s else (s.setReference s.own).raiseKind .stationConflict)

/-- LINE_ACTIVITY_FAILED: the slot reference is set with 15 as the last sender (R161), and activity that formed a frame is
counted as a receive error (R158). -/
def execLineActivityFailed (formed : Bool) (s : State) : Host.Outcome State Fault Refusal :=
  .next (if s.power = .off then s
    else
      let s := s.setReference 15
      if formed then s.countError else s)

/-- Slot `k` after the reference belongs to this station (R160). -/
def State.ownsSlot (s : State) (k : Nat) : Bool := decide ((s.line.lastSender.val + 1 + k) % 16 = s.own.val)

/-- ACCESS_SLOT: in an own slot, with the line idle and no own frame in flight, the entry of the lowest class, the oldest
of it, is sent (R160, R165); nothing is sent before the start sequence has ended (R172). -/
def execAccessSlot (k : Nat) (s : State) : Host.Outcome State Fault Refusal :=
  .next (s.whileRunning fun s =>
    if s.line.idle && s.ownsSlot k && (inFlightOf s.line.queue).isNone then
      match sendNext s.line.queue with
      | some q => { s with line := { s.line with queue := q, idle := false } }
      | none => s
    else s)

/-- ECHO_TAKEN: the entry in flight leaves the queue, the slot reference is set with the own number, and the echo is
delivered (R161, R162). -/
def execEchoTaken (s : State) : Host.Outcome State Fault Refusal :=
  .next (match inFlightOf s.line.queue with
    | none => s
    | some e => ((s.setReference s.own).setQueue (dropInFlight s.line.queue)).deliverEcho e.msg)

/-- ECHO_FAILED: a damaged echo is a receive error and sets 15 as the last sender; an intact frame that differs is a
conflict frame and sets its source as the last sender. The entry is then superseded, returned, or finally dropped
(R116, R158, R161, R162, R166). DEDUCED, unsafe (log 40): an own echo that ends without forming a frame is a damaged one and
counted as a receive error, unlike such activity of others (log 17). -/
def execEchoFailed (heard : EchoHeard) (s : State) : Host.Outcome State Fault Refusal :=
  .next (match inFlightOf s.line.queue with
    | none => s
    | some e =>
      match heard with
      | .damaged => (s.setReference 15).countError.failedEcho e
      | .differs src => ((s.setReference src).raiseKind .stationConflict).failedEcho e)

/-- HDATA_PIECE_OFFER: the next piece is offered to the transmit queue (R151). -/
def execHdataPieceOffer (s : State) : Host.Outcome State Fault Refusal := .next s.offerPiece

/-- LINE_ACTIVITY_START: another station's frame begins, and the slot count stops (R160). -/
def execLineActivityStart (s : State) : Host.Outcome State Fault Refusal :=
  .next (if s.power = .off then s else { s with line := { s.line with idle := false } })

end Sys2Proof.Machine
end

