-- ==== Sys2Proof/WellFormed.lean ====
section
/-! DEFINITION. The checks on a command's operands that their types do not make. The operand types already keep
every station number within 0 to 15, every zone within 0 to 7 and every frame field within its bytes; what is
left is the length of the configuration read and the piece byte of an HDATA. Every meaning is total:
it acts on an ill-formed operand too, as its docstring says. -/

namespace Sys2Proof

/-- The configuration block is 233 bytes long (R199). -/
def blockLength : Nat := 233

/-- A read of the configuration block never takes more than the block (R191, R199). -/
def readWellFormed (read : List Byte) : Bool := decide (read.length ≤ blockLength)

/-- The piece byte of an HDATA: piece index 0 to 12 in its upper half, piece count 1 to 13 in its lower half, the
index below the count (R151, R196). -/
def pieceWellFormed (piece : Byte) : Bool :=
  decide (1 ≤ (piece &&& 0x0F#8).toNat) && decide ((piece &&& 0x0F#8).toNat ≤ 13) &&
    decide ((piece >>> 4).toNat < (piece &&& 0x0F#8).toNat)

/-- The well-formed commands: those whose operands an event at the part can carry. -/
def Instr.wellFormed : Instr → Bool
  | .powerOn _ read _ => readWellFormed read
  | .rxHdata _ _ _ piece _ => pieceWellFormed piece
  | .startSequenceEnd | .closeReq | .closedRise | .closedFall | .openedRise | .openedFall | .partClear
  | .holdInputChange _ | .startInput | .ackInput | .clearInput | .temperatureFrame .. | .sensorLoss _
  | .windowStep _ | .leadInEnd _ | .windowEnd _ | .controlTick | .doseTick | .closeTimerExpiry
  | .openTimerExpiry | .holdSecondTimer | .soakTimer | .weighFrame .. | .weighLossTimer | .listenTimer
  | .shareTimer | .starveTimer | .ageTimer _ | .headHoldTimer | .reAskTimer | .wakeTimer | .rxShare ..
  | .rxRaise .. | .rxLeave .. | .rxAsk .. | .rxDone .. | .rxDrop .. | .rxPart .. | .rxHget .. | .rxHtake ..
  | .rxHnone .. | .rxHbusy .. | .rxWake .. | .rxRest .. | .rxHold .. | .rxRelease .. | .rxClear ..
  | .rxSelect .. | .rxQuery .. | .rxReport .. | .rxForget .. | .rxAlert .. | .rxTrip .. | .rxAnswer ..
  | .conflictFrame | .lineActivityFailed _ | .accessSlot _ | .echoTaken | .echoFailed _ | .hdataPieceOffer
  | .lineActivityStart | .supplyLoss => true

end Sys2Proof
end

