-- ==== Sys2Proof/Machine/ConfigBlock.lean ====
section
/-! DEFINITION. Taking the configuration block: good or bad (R191), its layout (R199), the range of each field and
what an out-of-range field is taken as (R192), and the write-back of the epoch (R140, R194). -/

namespace Sys2Proof.Machine

/-- One byte of the block, unsigned. -/
def blockByte (bs : List Byte) (i : Nat) : Nat := (bs.getD i 0#8).toNat

/-- `k` bytes of the block from byte `i`, unsigned, high byte first (R196). -/
def blockNat (bs : List Byte) (i k : Nat) : Nat := beNat ((bs.drop i).take k)

/-- `k` bytes of the block from byte `i`, signed, high byte first (R196). -/
def blockInt (bs : List Byte) (i k : Nat) : Int := beInt ((bs.drop i).take k)

/-- A field lies outside its range. -/
def outside (lo hi x : Int) : Bool := decide (x < lo) || decide (hi < x)

/-- A field taken at its nearest limit (R192). -/
def nearest (lo hi x : Nat) : Nat := max lo (min x hi)

/-- The escalation threshold as taken: 0 as 1, 4 as 3, above 5 as 5 (R192). -/
def escalationOf (n : Nat) : Nat := if n = 0 then 1 else if n = 4 then 3 else if 5 < n then 5 else n

/-- The bit rate of its code, in kbit/s; an undefined code as 125 (R192, R199). -/
def bitRateOf (code : Nat) : Nat := if code = 1 then 250 else if code = 2 then 500 else 125

/-- The wake mode of its code; an undefined code as STANDBY (R192). -/
def wakeModeOf (code : Nat) : Mode := if code = 2 then .run else .standby

/-- The start mode of its code; an undefined code as COLD (R192). -/
def startModeOf (code : Nat) : Mode := if code = 1 then .standby else if code = 2 then .run else .cold

/-- The recipe whose 20 bytes start at `o`, as stored (R199). -/
def storedRecipe (bs : List Byte) (o : Nat) : Recipe :=
  { cureSp := blockInt bs o 2, tRef := blockInt bs (o + 2) 2, dBase := blockNat bs (o + 4) 2
    tMin := blockNat bs (o + 6) 2, tMax := blockNat bs (o + 8) 2, dOverMax := blockNat bs (o + 10) 2
    mTgt := blockNat bs (o + 12) 3, tolPm := blockByte bs (o + 15), plyMinCount := blockByte bs (o + 16)
    plyMaxCount := blockByte bs (o + 17), closeTimeout := blockByte bs (o + 18)
    openTimeout := blockByte bs (o + 19) }

/-- A recipe with each field at the nearest limit of its range (R192). -/
def takenRecipe (r : Recipe) : Recipe :=
  { cureSp := clamp r.cureSp 500 2500, tRef := clamp r.tRef 500 2500, dBase := nearest 1 65535 r.dBase
    tMin := r.tMin, tMax := nearest 1 65535 r.tMax, dOverMax := r.dOverMax
    mTgt := nearest 1 300000 r.mTgt, tolPm := nearest 1 100 r.tolPm
    plyMinCount := nearest 1 24 r.plyMinCount, plyMaxCount := nearest 1 24 r.plyMaxCount
    closeTimeout := nearest 1 255 r.closeTimeout, openTimeout := nearest 1 255 r.openTimeout }

/-- Some field of the block with a good CRC lies outside its range or holds an undefined value (R192). Recipes at or
above the recipe count are not checked. -/
def blockOutOfRange (bs : List Byte) : Bool :=
  let count := nearest 1 8 (blockByte bs 70)
  outside 0 2 (blockByte bs 0) ||
  zoneIds.any (fun z => outside 100 20000 (blockNat bs (4 + 2 * z.val) 2)) ||
  outside 10 500 (blockNat bs 36 2) || outside 500 3000 (blockInt bs 38 2) ||
  (blockByte bs 40 != escalationOf (blockByte bs 40)) ||
  outside 0 2500 (blockInt bs 41 2) || outside 1 200 (blockByte bs 43) || outside 0 3600 (blockNat bs 44 2) ||
  outside 1 65535 (blockNat bs 49 2) || outside 1 255 (blockByte bs 51) || outside 1 65535 (blockNat bs 56 2) ||
  outside 10 600 (blockNat bs 59 2) || outside 0 1 (blockByte bs 61) || outside 0 1440 (blockNat bs 64 2) ||
  outside 1 2 (blockByte bs 66) || outside 0 2 (blockByte bs 67) || outside 1 8 (blockByte bs 70) ||
  zoneIds.any (fun r => decide (r.val < count) &&
    (takenRecipe (storedRecipe bs (71 + 20 * r.val)) != storedRecipe bs (71 + 20 * r.val)))

/-- The configuration a good block gives, each field as taken (R192, R199). -/
def takenConfig (bs : List Byte) : Config :=
  let count := nearest 1 8 (blockByte bs 70)
  { good := true
    bitRate := bitRateOf (blockByte bs 0)
    budget := blockNat bs 1 2
    zones := Vector.ofFn fun z : Fin 8 =>
      { enabled := (bs.getD 3 0#8).getLsbD z.val
        power := nearest 100 20000 (blockNat bs (4 + 2 * z.val) 2)
        kp := blockByte bs (20 + z.val), ki := blockByte bs (28 + z.val) }
    margin := nearest 10 500 (blockNat bs 36 2)
    tAbs := clamp (blockInt bs 38 2) 500 3000
    escalation := escalationOf (blockByte bs 40)
    standbySp := clamp (blockInt bs 41 2) 0 2500
    band := nearest 1 200 (blockByte bs 43)
    soak := nearest 0 3600 (blockNat bs 44 2)
    scaleZero := blockInt bs 46 3
    scaleK := nearest 1 65535 (blockNat bs 49 2)
    stableBand := nearest 1 255 (blockByte bs 51)
    zeroBand := blockNat bs 52 2
    plyMatch := blockNat bs 54 2
    plyMin := nearest 1 65535 (blockNat bs 56 2)
    liftUsed := (bs.getD 58 0#8).getLsbD 0
    tHold := nearest 10 600 (blockNat bs 59 2)
    historyMode := if blockByte bs 61 = 1 then .lenient else .strict
    enables := BitVec.ofNat 16 (blockNat bs 62 2)
    wakeMinutes := nearest 0 1440 (blockNat bs 64 2)
    wakeMode := wakeModeOf (blockByte bs 66)
    startMode := startModeOf (blockByte bs 67)
    recipeCount := count
    recipes := Vector.ofFn fun r : Fin 8 =>
      let stored := storedRecipe bs (71 + 20 * r.val)
      if r.val < count then takenRecipe stored else stored }

/-- The block is good: every byte of it was acknowledged, and the CRC in its last two bytes is that of the others
(R191, R196, R199). -/
def blockGood (read : List Byte) : Bool :=
  decide (blockLength ≤ read.length) &&
    decide (blockNat read 231 2 = (crc16 (read.take 231)).toNat)

/-- The epoch a good block stores (R199). -/
def storedEpoch (read : List Byte) : Half := BitVec.ofNat 16 (blockNat read 68 2)

/-- The epoch in force after power-on with a good block: the stored epoch advanced by 1, 65535 followed by 0
(R140). -/
def advancedEpoch (read : List Byte) : Half := storedEpoch read + 1#16

/-- The block's CRC over the block as stored, with the advanced epoch in bytes 68 and 69 (R194). -/
def advancedCrc (read : List Byte) : Half :=
  crc16 (read.take 68 ++ beBytes 2 (advancedEpoch read).toNat ++ (read.take 231).drop 70)

/-- The 7-bit bus address of the configuration memory (R199). -/
def memoryDevice : BitVec 7 := 0x50#7

/-- The memory byte address as the part gives it on the bus: two bytes, high byte first (R199). -/
def MemTransfer.addressBytes : MemTransfer → List Byte
  | .read _ address _ => beBytes 2 address.toNat
  | .write _ address _ => beBytes 2 address.toNat

/-- The transfers of a start sequence, in order: the block read from byte 0 in one pass (R191, R199), and with a good block
the epoch and the CRC written at their bytes and read back (R140, R194). The order and the division of the write-back are
the model's choice (log 36). -/
def configTransfers (read : List Byte) : List MemTransfer :=
  let block := [.read memoryDevice 0#16 blockLength]
  if blockGood read then
    block ++ [.write memoryDevice 68#16 (beBytes 2 (advancedEpoch read).toNat),
      .write memoryDevice 231#16 (beBytes 2 (advancedCrc read).toNat),
      .read memoryDevice 68#16 2, .read memoryDevice 231#16 2]
  else block

/-- The write-back failed: not acknowledged, or the epoch or the CRC read back differs (R140, R194). -/
def writeBackFailed (read : List Byte) (wb : WriteBack) : Bool :=
  !wb.ack || (wb.epoch != advancedEpoch read) || (wb.crc != advancedCrc read)

/-- The configuration in force after the read (R191 to R193). -/
def configOf (read : List Byte) : Config := if blockGood read then takenConfig read else badConfig

/-- The ceiling: ceil(sum of P_z over the enabled zones / 100) (R83). -/
def ceilingOf (cfg : Config) : Nat :=
  ceilDiv ((zoneIds.map fun z => if cfg.zones[z].enabled then cfg.zones[z].power else 0).sum) 100

end Sys2Proof.Machine
end

