-- ==== Sys2Proof/Machine/PowerCommands.lean ====
section
/-! DEFINITION. POWER_ON, START_SEQUENCE_END and SUPPLY_LOSS (R195). -/

namespace Sys2Proof.Machine

/-- A raise of CONFIG; its condition holds from the first one until power-on (R184, R188). -/
def State.raiseConfig (s : State) : State :=
  { s with attn := { s.attn with configCond := true } }.raiseKind .config

/-- The part without supply: everything at its value at power-on, TRIP held asserted (note of section 11.4). The
waiting commands and the levels of the input pins are the outside's, and stay (log 5). -/
def State.unpowered (s : State) : State :=
  { State.reset with
    pending := s.pending
    lines := { State.reset.lines with
      closedIn := s.lines.closedIn, openedIn := s.lines.openedIn, holdIn := s.lines.holdIn } }

/-- Steps 1 to 3 of the start sequence: TRIP released, the straps and the block taken, the ceiling computed, the Line
Unit receiving with 15 as the last sender (R161, R191, R195); the epoch of a good block is advanced and the write-back
issued, all in transfers on the configuration bus (R140, R194, R199). -/
def State.starting (s : State) (straps : Station) (read : List Byte) : State :=
  let cfg := configOf read
  let t := s.unpowered
  { t with
    power := .starting
    own := straps
    cfg := cfg
    cfgBus := configTransfers read
    lines := { t.lines with tripOut := false }
    share := { t.share with ceiling := ceilingOf cfg, bEff := cfg.budget }
    hist := { t.hist with epoch := if cfg.good then advancedEpoch read else 0 } }

/-- POWER_ON (R195 steps 1 to 4): a bad block raises CONFIG, and so do a block with a field out of its range and a failed
write-back, each once (R140, R191, R192, R194). -/
def execPowerOn (straps : Station) (read : List Byte) (wb : WriteBack) (s : State) :
    Host.Outcome State Fault Refusal :=
  let s := s.starting straps read
  if s.cfg.good then
    let s := if blockOutOfRange read then s.raiseConfig else s
    .next (if writeBackFailed read wb then s.raiseConfig else s)
  else .next s.raiseConfig

/-- START_SEQUENCE_END (R195 step 5): the listen timer starts, sending may begin, and last the start mode is taken as a
mode entry (R102, R172, R174). -/
def execStartSequenceEnd (s : State) : Host.Outcome State Fault Refusal :=
  .next (if s.power = .starting then
    { s with power := .running, share := { s.share with listen := some tListen } }.enterMode s.cfg.startMode
  else s)

/-- SUPPLY_LOSS (R195, note of section 11.4): the state is lost, and TRIP is held asserted. -/
def execSupplyLoss (s : State) : Host.Outcome State Fault Refusal := .next s.unpowered

end Sys2Proof.Machine
end

