-- ==== Sys2Proof/Machine/PressCommands.lean ====
section
/-! DEFINITION. The press and operator inputs (R4, R6, R10 to R13, R21, R175, R187, R189), and the timers of the Cycle
Unit (R6, R7, R10, R17). -/

namespace Sys2Proof.Machine

/-- The cycle stands outside the press sequence, where a press found closed is opened (R12). -/
def State.outsideSequence (s : State) : Bool :=
  decide (s.cycle.st = .idle) || decide (s.cycle.st = .warming) || decide (s.cycle.st = .loading) ||
    decide (s.cycle.st = .faulted)

/-- CLOSE_REQ (R4): evaluated in WARMING and LOADING alone; the blocker of the first failing condition is set, or the
close is taken (R5). -/
def execCloseReq (s : State) : Host.Outcome State Fault Refusal :=
  .next (s.whileRunning fun s =>
    if s.cycle.st = .warming ∨ s.cycle.st = .loading then
      match s.closeBlocker with
      | .clear => s.takeClose
      | b => s.updCycle fun c => { c with blocker := b }
    else s)

/-- CLOSED_RISE: in CLOSING the cycle enters CURE (R6); outside the press sequence, with CLOSE_CMD released, a recovery
opening starts unless OPENED is asserted (R12). Without supply only the level of the pin changes. -/
def execClosedRise (s : State) : Host.Outcome State Fault Refusal :=
  let s := s.updLines fun l => { l with closedIn := true }
  .next (if s.power = .off then s
    else if s.cycle.st = .closing then s.enterCure
    else if s.outsideSequence ∧ s.lines.closeCmd = false ∧ s.lines.openedIn = false then s.setRecovery true
    else s)

/-- CLOSED_FALL changes no cycle state and no output (R12). -/
def execClosedFall (s : State) : Host.Outcome State Fault Refusal :=
  .next (s.updLines fun l => { l with closedIn := false })

/-- OPENED_RISE: in OPENING the cycle enters DEMOULD (R10); otherwise a recovery opening ends (R12). -/
def execOpenedRise (s : State) : Host.Outcome State Fault Refusal :=
  let s := s.updLines fun l => { l with openedIn := true }
  .next (if s.power = .off then s
    else if s.cycle.st = .opening then s.enterDemould
    else if s.cycle.recovery then
      (s.updLines fun l => { l with openCmd := false }).updCycle fun c => { c with recovery := false }
    else s)

/-- OPENED_FALL changes no cycle state and no output (R12). -/
def execOpenedFall (s : State) : Host.Outcome State Fault Refusal :=
  .next (s.updLines fun l => { l with openedIn := false })

/-- PART_CLEAR ends the cycle in DEMOULD (R11) and changes nothing in any other state (R12). -/
def execPartClear (s : State) : Host.Outcome State Fault Refusal :=
  .next (s.whileRunning fun s => if s.cycle.st = .demould then s.endCycle else s)

/-- HOLD_INPUT_CHANGE: the hold state follows the level (R13), and a hard-hold release makes a deferred ask (R15). Before
the end of the start sequence only the level of the pin changes (R189). -/
def execHoldInputChange (asserted : Bool) (s : State) : Host.Outcome State Fault Refusal :=
  let old := s.hold
  .next ((s.updLines fun l => { l with holdIn := asserted }).whileRunning fun s => s.holdChanged old)

/-- START: a mode request with target RUN, unanswered (R175, R189). -/
def execStartInput (s : State) : Host.Outcome State Fault Refusal :=
  .next (s.whileRunning fun s => (s.requestUp .run).1)

/-- ACK: the raw flags are cleared (R187). -/
def execAckInput (s : State) : Host.Outcome State Fault Refusal :=
  .next (s.whileRunning fun s => s.clearFlags.resetLevels)

/-- CLEAR_INPUT: CLEAR as one event, unanswered (R21, R189). -/
def execClearInput (s : State) : Host.Outcome State Fault Refusal := .next (s.whileRunning State.clearEvent)

/-- DOSE_TICK (R7): taken while the dose tick timer runs, in CURE, LIFT_WAIT and OPENING. -/
def execDoseTick (s : State) : Host.Outcome State Fault Refusal :=
  .next (if s.cycle.doseTimer.isSome ∧
      (s.cycle.st = .cure ∨ s.cycle.st = .liftWait ∨ s.cycle.st = .opening) then s.takeDoseTick else s)

/-- CLOSE_TIMER_EXPIRY in CLOSING: FAULTED with cause PRESS_TIMEOUT (R6, R18). -/
def execCloseTimerExpiry (s : State) : Host.Outcome State Fault Refusal :=
  .next (if s.cycle.closeTimer.isSome ∧ s.cycle.st = .closing then s.enterFaulted true else s)

/-- OPEN_TIMER_EXPIRY in OPENING: FAULTED with cause PRESS_TIMEOUT (R10, R18). -/
def execOpenTimerExpiry (s : State) : Host.Outcome State Fault Refusal :=
  .next (if s.cycle.openTimer.isSome ∧ s.cycle.st = .opening then s.enterFaulted true else s)

/-- HOLD_SECOND_TIMER: one hold second is counted if the hold state is SOFT or HARD (R17). -/
def execHoldSecondTimer (s : State) : Host.Outcome State Fault Refusal :=
  .next (if s.cycle.holdTimer.isSome ∧ s.hold ≠ .free then
    s.updCycle fun c => { c with holdSecs := c.holdSecs + 1 } else s)

end Sys2Proof.Machine
end

