-- ==== Sys2Proof/Machine/TimerCommands.lean ====
section
/-! DEFINITION. The expiries of the timers of the Share Unit (R98, R100, R102), the Peer View (R108), the Lift Queue
(R126, R129) and the Mode logic (R178). The expiry of a timer that is stopped cannot happen, and has no effect
(log 3). -/

namespace Sys2Proof.Machine

/-- LISTEN_TIMER: the listen period ends; nothing else changes (R102). -/
def execListenTimer (s : State) : Host.Outcome State Fault Refusal :=
  .next { s with share := { s.share with listen := none } }

/-- SHARE_TIMER: SHARE is queued (R99, R100). -/
def execShareTimer (s : State) : Host.Outcome State Fault Refusal :=
  .next (if s.share.shareTimer.isSome then s.queueShare else s)

/-- STARVE_TIMER: the STARVED condition becomes true and STARVED is raised (R98). -/
def execStarveTimer (s : State) : Host.Outcome State Fault Refusal :=
  .next (if s.share.starveTimer.isSome then
    { s with share := { s.share with starveTimer := none, starvedCond := true } }.raiseKind .starved
  else s)

/-- AGE_TIMER: a FRESH entry becomes STALE, and the Share Unit is handed the update (R108, R117). -/
def execAgeTimer (peer : Station) (s : State) : Host.Outcome State Fault Refusal :=
  .next (if peer ≠ s.own ∧ (s.peer peer).presence = .fresh then
    (s.setPeer peer { s.peer peer with presence := .stale, age := none }).handOff
  else s)

/-- HEAD_HOLD_TIMER (R126). -/
def execHeadHoldTimer (s : State) : Host.Outcome State Fault Refusal :=
  .next (if s.lift.headTimer.isSome then s.headHoldExpiry else s)

/-- RE_ASK_TIMER (R129). -/
def execReAskTimer (s : State) : Host.Outcome State Fault Refusal :=
  .next (match s.lift.reAsk with
    | some n => s.reAskExpiry n
    | none => s)

/-- WAKE_TIMER: the station goes to the configured wake mode (R178). -/
def execWakeTimer (s : State) : Host.Outcome State Fault Refusal :=
  .next (if s.ml.wakeTimer.isSome then
    (s.updMl fun m => { m with wakeTimer := none }).enterMode s.cfg.wakeMode
  else s)

end Sys2Proof.Machine
end

