-- ==== Sys2Proof/Machine/WeighCommands.lean ====
section
/-! DEFINITION. The weigh link and its loss timer (R59 to R63). -/

namespace Sys2Proof.Machine

/-- The mass of a count, before its limits, with the configured zero and K (R61). -/
def State.massOf (s : State) (count : BitVec 24) : Int := rawMass count.toInt s.cfg.scaleZero s.cfg.scaleK

/-- An accepted frame (R60, R61): the limited mass is the latest mass and the loss timer restarts; the reading is valid
unless the overrange flag is set or the mass had to be limited. -/
def State.takeCount (s : State) (count : BitVec 24) (overrange : Bool) : State :=
  let raw := s.massOf count
  let s := s.setWeigh { s.weigh with latest := limitMass raw, lossTimer := some tWeigh }
  if !overrange && decide (limitMass raw = raw) then s.validReading raw else s.weighFault

/-- WEIGH_FRAME (R60): discarded in INACTIVE and where it fails the link's check. -/
def execWeighFrame (linkOk : Bool) (count : BitVec 24) (overrange : Bool) (s : State) :
    Host.Outcome State Fault Refusal :=
  .next (if linkOk = true ∧ s.weigh.link ≠ .inactive then s.takeCount count overrange else s)

/-- WEIGH_LOSS_TIMER: the loss timer expires, which is a weigh fault (R60, R62). -/
def execWeighLossTimer (s : State) : Host.Outcome State Fault Refusal :=
  .next (if s.weigh.lossTimer.isSome then (s.setWeigh { s.weigh with lossTimer := none }).weighFault else s)

end Sys2Proof.Machine
end

