-- ==== Sys2Proof/Machine/ZoneCommands.lean ====
section
/-! DEFINITION. The temperature link (R36 to R39), the 10 ms step and the ends of lead-ins and windows (R43 to R50), the
control tick (R40, R96) and the soak timer (R55). -/

namespace Sys2Proof.Machine

/-- A frame of the temperature link is a valid reading: fault flag clear and reading within -500 to +4000 (R36). -/
def readingValid (reading : Int) (fault : Bool) : Bool :=
  !fault && decide (-500 ≤ reading) && decide (reading ≤ 4000)

/-- The absolute limit is watched (R39): a reading at or above it that finds the mark clear sets the mark and hands the
Mode logic a trip request, one below it clears the mark. -/
def State.watchLimit (s : State) (z : ZoneId) : State :=
  let v := s.zone z
  if v.temp < s.cfg.tAbs then s.setZone z { v with overLimit := false }
  else if v.overLimit then s
  else (s.setZone z { v with overLimit := true }).takeTrip .overtemp z

/-- A valid reading is taken (R36, R37, R39, R54). -/
def State.takeReading (s : State) (z : ZoneId) (reading : Int) : State :=
  let s := s.setZone z { s.zone z with temp := reading, valid := true, loss := some tSens }
  (s.testReading z).judgeBands.watchLimit z

/-- A fault report is taken (R36, R38). -/
def State.takeFaultReport (s : State) (z : ZoneId) : State :=
  (s.setZone z { faultedReading (s.zone z) with loss := some tSens }).judgeBands

/-- TEMPERATURE_FRAME (R36): discarded where it fails the link's check or names a zone whose enable is clear. -/
def execTemperatureFrame (linkOk : Bool) (zone : ZoneId) (reading : Int) (fault : Bool) (s : State) :
    Host.Outcome State Fault Refusal :=
  .next (s.whileRunning fun s =>
    if linkOk && (s.zoneCfg zone).enabled then
      if readingValid reading fault then s.takeReading zone reading else s.takeFaultReport zone
    else s)

/-- SENSOR_LOSS: the age of the zone reaches tSENS (R38). -/
def execSensorLoss (zone : ZoneId) (s : State) : Host.Outcome State Fault Refusal :=
  .next (s.whileRunning fun s =>
    if (s.zone zone).loss.isSome then
      (s.setZone zone { faultedReading (s.zone zone) with loss := none }).judgeBands
    else s)

/-- WINDOW_STEP: the windows advance (R43), the enabled zones are sampled (R44, R47), and the stuck requests of the step
are taken one after the other in ascending order of zone (R50, R181). -/
def execWindowStep (sense : Byte) (s : State) : Host.Outcome State Fault Refusal :=
  .next (s.whileRunning fun s =>
    let s := s.advanceWindows
    (s.stuckZones sense).foldl (fun s z => s.takeTrip .stuck z) (s.sampleZones sense))

/-- LEAD_IN_END: the lead-in of the zone has run out, and its first window begins at the next step (R43). -/
def execLeadInEnd (zone : ZoneId) (s : State) : Host.Outcome State Fault Refusal :=
  .next (s.whileRunning fun s =>
    if (s.zone zone).leadInOver then s.setZone zone { s.zone zone with pos := .begins } else s)

/-- WINDOW_END: the window of the zone is judged (R48, R49). -/
def execWindowEnd (zone : ZoneId) (s : State) : Host.Outcome State Fault Refusal :=
  .next (s.whileRunning fun s => if (s.zone zone).windowOver then s.endWindow zone else s)

/-- CONTROL_TICK (R40, R96), taken once zone control has started (R33). -/
def execControlTick (s : State) : Host.Outcome State Fault Refusal :=
  .next (s.whileRunning fun s => if s.zoneControl then s.takeControlTick else s)

/-- SOAK_TIMER: one second is added to the soak count, and at the soak time the station becomes ready (R55). -/
def execSoakTimer (s : State) : Host.Outcome State Fault Refusal :=
  .next (if s.zu.soakTimer.isSome then
    let n := s.zu.soakCount + 1
    let s := s.updZu fun u => { u with soakCount := n }
    if s.cfg.soak ≤ n then s.becomeReady else s
  else s)

end Sys2Proof.Machine
end

