-- ==== Sys2Proof/Machine/Dispatch.lean ====
section
/-! DEFINITION. The dispatch: one arm per command. -/

namespace Sys2Proof.Machine

def exec (i : Instr) (s : State) : Host.Outcome State Fault Refusal :=
  match i with
  | .powerOn straps read wb => Sys2Proof.Machine.execPowerOn straps read wb s
  | .startSequenceEnd => Sys2Proof.Machine.execStartSequenceEnd s
  | .closeReq => Sys2Proof.Machine.execCloseReq s
  | .closedRise => Sys2Proof.Machine.execClosedRise s
  | .closedFall => Sys2Proof.Machine.execClosedFall s
  | .openedRise => Sys2Proof.Machine.execOpenedRise s
  | .openedFall => Sys2Proof.Machine.execOpenedFall s
  | .partClear => Sys2Proof.Machine.execPartClear s
  | .holdInputChange asserted => Sys2Proof.Machine.execHoldInputChange asserted s
  | .startInput => Sys2Proof.Machine.execStartInput s
  | .ackInput => Sys2Proof.Machine.execAckInput s
  | .clearInput => Sys2Proof.Machine.execClearInput s
  | .temperatureFrame linkOk zone reading fault => Sys2Proof.Machine.execTemperatureFrame linkOk zone reading fault s
  | .sensorLoss zone => Sys2Proof.Machine.execSensorLoss zone s
  | .windowStep sense => Sys2Proof.Machine.execWindowStep sense s
  | .leadInEnd zone => Sys2Proof.Machine.execLeadInEnd zone s
  | .windowEnd zone => Sys2Proof.Machine.execWindowEnd zone s
  | .controlTick => Sys2Proof.Machine.execControlTick s
  | .doseTick => Sys2Proof.Machine.execDoseTick s
  | .closeTimerExpiry => Sys2Proof.Machine.execCloseTimerExpiry s
  | .openTimerExpiry => Sys2Proof.Machine.execOpenTimerExpiry s
  | .holdSecondTimer => Sys2Proof.Machine.execHoldSecondTimer s
  | .soakTimer => Sys2Proof.Machine.execSoakTimer s
  | .weighFrame linkOk count overrange => Sys2Proof.Machine.execWeighFrame linkOk count overrange s
  | .weighLossTimer => Sys2Proof.Machine.execWeighLossTimer s
  | .listenTimer => Sys2Proof.Machine.execListenTimer s
  | .shareTimer => Sys2Proof.Machine.execShareTimer s
  | .starveTimer => Sys2Proof.Machine.execStarveTimer s
  | .ageTimer peer => Sys2Proof.Machine.execAgeTimer peer s
  | .headHoldTimer => Sys2Proof.Machine.execHeadHoldTimer s
  | .reAskTimer => Sys2Proof.Machine.execReAskTimer s
  | .wakeTimer => Sys2Proof.Machine.execWakeTimer s
  | .rxShare src dst claim ceiling budget mode cycle flags ask => Sys2Proof.Machine.execRxShare src dst claim ceiling budget mode cycle flags ask s
  | .rxRaise src dst claim => Sys2Proof.Machine.execRxRaise src dst claim s
  | .rxLeave src dst => Sys2Proof.Machine.execRxLeave src dst s
  | .rxAsk src dst ask => Sys2Proof.Machine.execRxAsk src dst ask s
  | .rxDone src dst ask flags => Sys2Proof.Machine.execRxDone src dst ask flags s
  | .rxDrop src dst holder ask => Sys2Proof.Machine.execRxDrop src dst holder ask s
  | .rxPart src dst epoch serial result => Sys2Proof.Machine.execRxPart src dst epoch serial result s
  | .rxHget src dst selector serial => Sys2Proof.Machine.execRxHget src dst selector serial s
  | .rxHdata src dst serialLow piece data => Sys2Proof.Machine.execRxHdata src dst serialLow piece data s
  | .rxHtake src dst serial => Sys2Proof.Machine.execRxHtake src dst serial s
  | .rxHnone src dst reason => Sys2Proof.Machine.execRxHnone src dst reason s
  | .rxHbusy src dst => Sys2Proof.Machine.execRxHbusy src dst s
  | .rxWake src dst target => Sys2Proof.Machine.execRxWake src dst target s
  | .rxRest src dst target => Sys2Proof.Machine.execRxRest src dst target s
  | .rxHold src dst strength => Sys2Proof.Machine.execRxHold src dst strength s
  | .rxRelease src dst => Sys2Proof.Machine.execRxRelease src dst s
  | .rxClear src dst => Sys2Proof.Machine.execRxClear src dst s
  | .rxSelect src dst recipe => Sys2Proof.Machine.execRxSelect src dst recipe s
  | .rxQuery src dst => Sys2Proof.Machine.execRxQuery src dst s
  | .rxReport src dst payload => Sys2Proof.Machine.execRxReport src dst payload s
  | .rxForget src dst number => Sys2Proof.Machine.execRxForget src dst number s
  | .rxAlert src dst kind => Sys2Proof.Machine.execRxAlert src dst kind s
  | .rxTrip src dst cause zone => Sys2Proof.Machine.execRxTrip src dst cause zone s
  | .rxAnswer src dst kind outcome => Sys2Proof.Machine.execRxAnswer src dst kind outcome s
  | .conflictFrame => Sys2Proof.Machine.execConflictFrame s
  | .lineActivityFailed formed => Sys2Proof.Machine.execLineActivityFailed formed s
  | .accessSlot k => Sys2Proof.Machine.execAccessSlot k s
  | .echoTaken => Sys2Proof.Machine.execEchoTaken s
  | .echoFailed heard => Sys2Proof.Machine.execEchoFailed heard s
  | .hdataPieceOffer => Sys2Proof.Machine.execHdataPieceOffer s
  | .lineActivityStart => Sys2Proof.Machine.execLineActivityStart s
  | .supplyLoss => Sys2Proof.Machine.execSupplyLoss s

end Sys2Proof.Machine
end

