-- ==== Sys2Proof/Safety.lean ====
section
/-! DEFINITION. What a sound station keeps at every step, in the terms the statements use: each predicate gathers what
the rules it cites say of every state of one block. -/

namespace Sys2Proof.Machine

/-! ### The transmit queue (R151, R152, R162, R164, R166, R167) -/

/-- How many entries of a queue satisfy `p`. -/
def countOf (p : Entry → Bool) (q : List Entry) : Nat := (q.filter p).length

/-- The queue holds at most 12 entries, at most 5 of class 3, at most one in flight, at most one waiting SHARE and one
waiting RAISE, and no entry has failed three times; the piece in the queue is the one HDATA entry, it is the piece
before the next index of the reply, and a reply without a piece in the queue has pieces left. -/
def State.QueueKept (s : State) : Prop :=
  s.line.queue.length ≤ 12 ∧
  class3Count s.line.queue ≤ 5 ∧
  countOf (·.inFlight) s.line.queue ≤ 1 ∧
  countOf (fun e => !e.inFlight && e.msg.isShare) s.line.queue ≤ 1 ∧
  countOf (fun e => !e.inFlight && e.msg.isRaise) s.line.queue ≤ 1 ∧
  (∀ e ∈ s.line.queue, e.attempts < 3) ∧
  countOf (·.msg.isHdata) s.line.queue = (if s.hist.piece.isSome then 1 else 0) ∧
  (∀ i ∈ s.hist.piece, ∃ r ∈ s.hist.reply, r.next = i + 1) ∧
  (∀ r ∈ s.hist.reply, r.next ≤ r.count ∧ (s.hist.piece = none → r.next < r.count))

/-! ### The claim and the budget (R82, R84, R90, R92, R93, R97, R98, R103) -/

/-- The budgets that enter B_eff beside the own: those of the peers whose entry is FRESH or STALE and has held a SHARE
(R84). -/
def State.budgetsHeard (s : State) : List Nat :=
  (stationIds.filter fun p => decide (p ≠ s.own) && decide ((s.peer p).presence ≠ .absent) && (s.peer p).held).map
    fun p => (s.peer p).budget

/-- The claim lies within the ceiling and within what the effective budget leaves beside the committed claims counted for
the peers; in COLD and TRIPPED and during the listen period it is 0 with no raise pending and the starved state clear;
the effective budget and the mismatch mark are those of the budgets heard; a starved station has its starve timer
running or its STARVED condition true, and no other has. -/
def State.ClaimKept (s : State) : Prop :=
  s.share.claim ≤ s.share.ceiling ∧
  s.share.claim ≤ s.share.bEff - s.oCommit ∧
  s.share.want ≤ s.share.ceiling ∧
  (∀ q ∈ s.share.raising, q ≤ s.share.ceiling) ∧
  (s.mode = .cold ∨ s.mode = .tripped ∨ s.share.listen.isSome →
    s.share.claim = 0 ∧ s.share.raising = none ∧ s.share.starved = false) ∧
  (s.power ≠ .running → s.mode = .cold) ∧
  s.share.bEff = s.budgetsHeard.foldl min s.cfg.budget ∧
  s.share.mismatch = s.budgetsHeard.any (fun b => b != s.cfg.budget) ∧
  s.share.starved = (s.share.starveTimer.isSome || s.share.starvedCond) ∧
  ¬(s.share.starveTimer.isSome ∧ s.share.starvedCond)

/-- A pending raise has its RAISE in the queue: the one that waits, where a RAISE waits, and else the one in flight, carries
the claim asked for (R89 to R92, R166). -/
def State.RaiseKept (s : State) : Prop :=
  ∀ q ∈ s.share.raising, (∃ e ∈ s.line.queue, e.msg = .raise q) ∧
    ∀ e ∈ s.line.queue, e.msg.isRaise = true →
      e.inFlight = false ∨ (∀ x ∈ s.line.queue, x.msg.isRaise = true → x.inFlight = true) → e.msg = .raise q

/-! ### Duties (R41, R42, R87) -/

/-- The power of a set of duties, in watt-steps (R86, R87). -/
def State.dutyPower (s : State) (f : Zone → Nat) : Nat :=
  (zoneIds.map fun z => f (s.zone z) * (s.zoneCfg z).power).sum

/-- The commanded duties stay within the claim: their sum of d' P is at most 20000 C; each is at most its demand, a demand
is at most 200, an integrator lies within 0 to 3200, and a zone that is not enabled is OFF and has neither demand nor duty.
-/
def State.DutyKept (s : State) : Prop :=
  s.dutyPower (·.duty) ≤ 20000 * s.share.claim ∧
  s.share.load = s.dutyPower (·.d) ∧
  ∀ z, (s.zone z).duty ≤ (s.zone z).d ∧ (s.zone z).d ≤ 200 ∧
    0 ≤ (s.zone z).integ ∧ (s.zone z).integ ≤ 3200 ∧
    ((s.zoneCfg z).enabled = false → (s.zone z).d = 0) ∧
    ((s.zoneCfg z).enabled = false → (s.zone z).state = .off)

/-! ### Zones (R32, R35, R43, R48, R49, R52) -/

/-- A window position of R43. -/
def WinPos.legal : WinPos → Bool
  | .idle | .begins => true
  | .leadIn n => decide (1 ≤ n) && decide (n < 200)
  | .step n => decide (n < 200)

/-- Every zone is OFF in COLD and TRIPPED, and always where it is not enabled; an ACTIVE zone has a valid reading; a
LOCKED_OUT zone has its mark; the open count lies within 0 to 5; the window position is one of R43, and none has begun
before zone control starts. -/
def State.ZonesKept (s : State) : Prop :=
  ∀ z, (s.mode = .cold ∨ s.mode = .tripped → (s.zone z).state = .off) ∧
    ((s.zoneCfg z).enabled = false → (s.zone z).state = .off) ∧
    ((s.zone z).state = .active → (s.zone z).valid = true) ∧
    ((s.zone z).state = .lockedOut → (s.zone z).lockout = true) ∧
    (s.zone z).opens ≤ 5 ∧ (s.zone z).pos.legal = true ∧
    (s.zoneControl = false → (s.zone z).pos = .idle)

/-! ### Readiness (R3, R54, R55, R56) -/

/-- Each in-band flag says that the zone is ACTIVE and its latest valid reading lies within the ready band of the setpoint:
|SP - T| at most the band (R54); without a setpoint, none is in band. -/
def State.BandsJudged (s : State) : Prop :=
  ∀ z, (s.zone z).inBand = (decide ((s.zone z).state = .active) && (s.zone z).valid &&
    s.setpoint.any fun sp => decide (-s.cfg.band ≤ sp - (s.zone z).temp) && decide (sp - (s.zone z).temp ≤ s.cfg.band))

/-- Each in-band flag is as R54 defines it; the all-in-band condition holds in RUN with at least one zone enabled and every
enabled zone in band (R55); a ready station is in band throughout; the soak timer runs exactly while the condition holds and
the station is not ready, and a broken condition has no soak; the cycle is in LOADING only while ready, and in WARMING only
while not. -/
def State.ReadyKept (s : State) : Prop :=
  s.BandsJudged ∧
  s.zu.allInBand = (decide (s.mode = .run) && zoneIds.any (fun z => (s.zoneCfg z).enabled) &&
    zoneIds.all fun z => !(s.zoneCfg z).enabled || (s.zone z).inBand) ∧
  (s.zu.ready = true → s.zu.allInBand = true) ∧
  s.zu.soakTimer.isSome = (s.zu.allInBand && !s.zu.ready) ∧
  (s.zu.allInBand = false → s.zu.soakCount = 0) ∧
  (s.cycle.st = .loading → s.zu.ready = true) ∧
  (s.cycle.st = .warming → s.zu.ready = false)

/-! ### Charges (R65, R70, R73) -/

/-- A total and a ply list that a recipe accepts: the total within tol_abs = floor(m_tgt tol_pm / 1000) of m_tgt, and the ply
count within its limits (R70). -/
def accepts (r : Recipe) (total : Int) (plies : List Int) : Prop :=
  (r.mTgt : Int) - (r.mTgt * r.tolPm / 1000 : Nat) ≤ total ∧ total ≤ (r.mTgt : Int) + (r.mTgt * r.tolPm / 1000 : Nat) ∧
    r.plyMinCount ≤ plies.length ∧ plies.length ≤ r.plyMaxCount

/-- The plies of a list of at most 24 sum to the total (R65). -/
def tallied (total : Int) (plies : List Int) : Prop := plies.sum = total ∧ plies.length ≤ 24

/-- A charge off the scale: tallied, and accepted by the recipe it names (R73). -/
def State.chargeKept (s : State) (c : Charge) : Prop :=
  tallied c.total c.plies ∧ accepts s.cfg.recipes[c.recipe] c.total c.plies

/-- BUILD is tallied; in EMPTY it holds nothing; in ACCEPTED and WAITING_STAGE it holds what the active recipe accepts;
the overflow mark stands only in OVER with a full list; STAGED and PRESS hold charges that their recipes accepted. -/
def State.ChargeKept (s : State) : Prop :=
  tallied s.weigh.build.total s.weigh.build.plies ∧
  (s.weigh.build.state = .empty → s.weigh.build = emptyBuild) ∧
  (s.weigh.build.state = .accepted ∨ s.weigh.build.state = .waitingStage →
    accepts s.recipe s.weigh.build.total s.weigh.build.plies) ∧
  (s.weigh.build.overflow = true → s.weigh.build.plies.length = 24 ∧ s.weigh.build.state = .overfull) ∧
  (∀ c ∈ s.weigh.staged, s.chargeKept c) ∧
  (∀ c ∈ s.weigh.press, s.chargeKept c)

/-- The state of BUILD is the one that the re-check against the recipe gives (R70, its three rows). -/
def Rechecked (r : Recipe) (b : Build) : Prop :=
  (b.overflow = false → accepts r b.total b.plies → b.state = .accepted) ∧
  (b.overflow = true ∨ (r.mTgt : Int) + (r.mTgt * r.tolPm / 1000 : Nat) < b.total ∨ r.plyMaxCount < b.plies.length →
    b.state = .overfull) ∧
  (b.overflow = false → ¬accepts r b.total b.plies → b.total ≤ (r.mTgt : Int) + (r.mTgt * r.tolPm / 1000 : Nat) →
    b.plies.length ≤ r.plyMaxCount → b.state = .building)

/-! ### The weigh link (R58, R59, R61 to R63) -/

/-- A mass within the range of R61. -/
def massLegal (m : Int) : Prop := -32768 ≤ m ∧ m ≤ 300000

/-- The link is INACTIVE exactly in COLD, with an empty window and its timer stopped; the window holds at most 16 masses,
fewer in SUSPENDED; every mass is in range; the SHARE timer runs exactly outside COLD (R100). -/
def State.WeighKept (s : State) : Prop :=
  (s.weigh.link = .inactive ↔ s.mode = .cold) ∧
  (s.weigh.link = .inactive → s.weigh.window = [] ∧ s.weigh.lossTimer = none) ∧
  s.weigh.window.length ≤ 16 ∧
  (s.weigh.link = .suspended → s.weigh.window.length < 16) ∧
  (∀ m ∈ s.weigh.window, massLegal m) ∧ massLegal s.weigh.latest ∧ massLegal s.weigh.tare ∧
  s.share.shareTimer.isSome = (s.mode != .cold)

/-! ### The cycle, the press and the mode (R1, R2, R5, R18, R19, R174, R178, section 1.1) -/

/-- The states of the press sequence: CLOSING to DEMOULD (R5). -/
def CycleState.inSequence : CycleState → Bool
  | .closing | .cure | .liftWait | .opening | .demould => true
  | .idle | .warming | .loading | .faulted => false

/-- The states in which CLOSE_CMD is asserted (section 1.1). -/
def CycleState.closes : CycleState → Bool
  | .closing | .cure | .liftWait => true
  | .idle | .warming | .loading | .opening | .demould | .faulted => false

/-- The states in which OPEN_CMD is asserted for the part (section 1.1). -/
def CycleState.opens : CycleState → Bool
  | .opening | .demould => true
  | .idle | .warming | .loading | .closing | .cure | .liftWait | .faulted => false

/-- PRESS is occupied, and a record RESERVED, exactly in the press sequence, which runs only in RUN; a pending mode, which
is STANDBY or COLD, exists only there; outside RUN the cycle is in IDLE or FAULTED, and in RUN not in IDLE; the press
lines are as section 1.1 gives them for the state; each cycle timer runs exactly in its states; the wake timer runs only
in COLD, and not before the start sequence has ended; TRIP is asserted exactly in TRIPPED and without supply. -/
def State.CycleKept (s : State) : Prop :=
  s.weigh.press.isSome = s.cycle.st.inSequence ∧
  s.hist.reserved.isSome = s.cycle.st.inSequence ∧
  (s.cycle.st.inSequence = true → s.mode = .run ∧ s.hist.reserved = some s.cycle.serial) ∧
  (∀ m ∈ s.ml.pendingMode, s.cycle.st.inSequence = true ∧ (m = .standby ∨ m = .cold)) ∧
  (s.mode ≠ .run → s.cycle.st = .idle ∨ s.cycle.st = .faulted) ∧
  (s.mode = .run → s.cycle.st ≠ .idle) ∧
  (s.power ≠ .running → s.mode = .cold ∧ s.cycle.st = .idle ∧ s.ml.wakeTimer = none) ∧
  s.lines.closeCmd = s.cycle.st.closes ∧
  s.lines.openCmd = (s.cycle.st.opens || s.cycle.recovery) ∧
  (s.cycle.recovery = true → s.cycle.st.inSequence = false) ∧
  s.lines.liftCall = (decide (s.cycle.st = .demould) && s.cfg.liftUsed) ∧
  s.cycle.closeTimer.isSome = decide (s.cycle.st = .closing) ∧
  s.cycle.openTimer.isSome = decide (s.cycle.st = .opening) ∧
  s.cycle.doseTimer.isSome =
    (decide (s.cycle.st = .cure) || decide (s.cycle.st = .liftWait) || decide (s.cycle.st = .opening)) ∧
  s.cycle.holdTimer.isSome = s.cycle.st.inSequence ∧
  (s.ml.wakeTimer.isSome → s.mode = .cold) ∧
  s.lines.tripOut = (decide (s.mode = .tripped) || decide (s.power = .off))

/-! ### The history store (R139, R141, R143) -/

/-- At most one slot is RESERVED and the counts add up to 64; the serials of all records are distinct, increase from
oldest to newest, and lie below the next serial, which lies within the 32 bits of a serial. -/
def State.HistKept (s : State) : Prop :=
  s.hist.stored.length + (if s.hist.reserved.isSome then 1 else 0) + s.hist.free = 64 ∧
  s.hist.stored.Pairwise (fun a b => a.serial < b.serial) ∧
  (∀ r ∈ s.hist.stored, 1 ≤ r.serial ∧ r.serial ≤ 4294967295) ∧
  (∀ n ∈ s.hist.reserved, 1 ≤ n ∧ n ≤ 4294967295 ∧ ∀ r ∈ s.hist.stored, r.serial < n) ∧
  (∀ n ∈ s.hist.next, 1 ≤ n ∧ n ≤ 4294967295 ∧ (∀ r ∈ s.hist.stored, r.serial < n) ∧
    ∀ m ∈ s.hist.reserved, m < n)

/-! ### The lift view (R120, R125, R126) -/

/-- The view holds at most one entry for each station; without a head the head-hold timer is stopped and the mark is NONE;
an OVERDUE head's timer has expired; at most one of the timer and the mark stands. -/
def State.LiftKept (s : State) : Prop :=
  (s.lift.view.map (·.station)).Nodup ∧
  (s.lift.view = [] → s.lift.headTimer = none ∧ s.lift.overdue = false) ∧
  (s.lift.overdue = true → s.lift.headTimer = none)

/-! ### The peer entries (R105, R107, R115) -/

/-- The own number has no entry; an ABSENT entry has every field at its ABSENT value; the age timer runs exactly while
the entry is FRESH; an entry that has held no SHARE has the fields of a SHARE at their ABSENT values; a conflict count
is at most 255. -/
def State.PeersKept (s : State) : Prop :=
  s.peer s.own = absentPeer ∧
  ∀ p, ((s.peer p).presence = .absent → s.peer p = absentPeer) ∧
    (s.peer p).age = (if (s.peer p).presence = .fresh then some 3000 else none) ∧
    ((s.peer p).held = false → (s.peer p) = { absentPeer with
      presence := (s.peer p).presence, age := (s.peer p).age, bound := (s.peer p).bound }) ∧
    (s.peer p).conflicts ≤ 255

/-! ### The attention flags (R184, R187) -/

/-- The flag of every level kind whose condition holds is set. -/
def State.FlagsKept (s : State) : Prop := s.levelFlags &&& s.attn.raw = s.levelFlags

/-! ### What a frame does before its content (R106, R107, R117, R161) -/

/-- An intact frame of station `src` has been taken for presence: the slot reference is set, the entry of the source is
FRESH, and the Share Unit has been handed the update. -/
def State.heardFrom (s : State) (src : Station) : State := ((s.setReference src).freshen src).handOff

/-! ### What is heard of a message (R168, R196) -/

/-- The command that another station takes from a message of station `src`. -/
def Msg.heardAs (src : Station) : Msg → Instr
  | .share claim ceiling budget starved mode cycle pos =>
    .rxShare src 255#8 (BitVec.ofNat 16 claim) (BitVec.ofNat 16 ceiling) (BitVec.ofNat 16 budget)
      (BitVec.ofNat 8 (modeCode mode)) (BitVec.ofNat 8 (cycleCode cycle)) (shareFlags starved pos) (posAsk pos)
  | .raise claim => .rxRaise src 255#8 (BitVec.ofNat 16 claim)
  | .leave => .rxLeave src 255#8
  | .ask n => .rxAsk src 255#8 n
  | .done n withdraw => .rxDone src 255#8 n (if withdraw then 1#8 else 0#8)
  | .drop holder n => .rxDrop src 255#8 (BitVec.ofNat 8 holder.val) n
  | .part epoch serial result =>
    .rxPart src 255#8 epoch (BitVec.ofNat 32 serial) (BitVec.ofNat 8 (resultCode result))
  | .hdata dst serialLow index count data =>
    .rxHdata src (BitVec.ofNat 8 dst.val) serialLow (pieceByte index count) (Vector.ofFn fun i : Fin 9 => data.getD i 0#8)
  | .hnone dst reason => .rxHnone src (BitVec.ofNat 8 dst.val) (BitVec.ofNat 8 (noneReasonCode reason))
  | .hbusy dst => .rxHbusy src (BitVec.ofNat 8 dst.val)
  | .report dst payload =>
    .rxReport src (BitVec.ofNat 8 dst.val) (Vector.ofFn fun i : Fin 12 => payload.getD i 0#8)
  | .alert kind => .rxAlert src 255#8 (BitVec.ofNat 8 (kindCode kind))
  | .trip cause zone => .rxTrip src 255#8 (BitVec.ofNat 8 (causeCode cause)) (BitVec.ofNat 8 zone.val)
  | .answer dst kind verdict =>
    .rxAnswer src (BitVec.ofNat 8 dst.val) kind (BitVec.ofNat 8 (verdictCode verdict))

/-- The byte lists of a message have the lengths their layout gives (R196). -/
def Msg.sized : Msg → Prop
  | .hdata _ _ _ _ data => data.length = 9
  | .report _ payload => payload.length = 12
  | .share .. | .raise _ | .leave | .ask _ | .done .. | .drop .. | .part .. | .hnone .. | .hbusy _ | .alert _
  | .trip .. | .answer .. => True

/-- DST, KIND and payload of a message, byte by byte (R196): multi-byte fields high byte first, 255 for ALL. -/
def frameContent : Msg → Byte × Byte × List Byte
  | .share claim ceiling budget starved mode cycle pos => (255#8, 1#8,
    [.ofNat 8 (claim / 256), .ofNat 8 claim, .ofNat 8 (ceiling / 256), .ofNat 8 ceiling, .ofNat 8 (budget / 256),
      .ofNat 8 budget, .ofNat 8 (modeCode mode), .ofNat 8 (cycleCode cycle),
      .ofNat 8 ((match pos with | .away => 0 | .waiting _ => 1 | .holding _ => 2) + if starved then 128 else 0),
      match pos with | .away => 0#8 | .waiting n => n | .holding n => n])
  | .raise claim => (255#8, 2#8, [.ofNat 8 (claim / 256), .ofNat 8 claim])
  | .leave => (255#8, 3#8, [])
  | .ask n => (255#8, 4#8, [n])
  | .done n withdraw => (255#8, 5#8, [n, if withdraw then 1#8 else 0#8])
  | .drop holder n => (255#8, 6#8, [.ofNat 8 holder.val, n])
  | .part epoch serial result => (255#8, 7#8,
    [.ofNat 8 (epoch.toNat / 256), .ofNat 8 epoch.toNat, .ofNat 8 (serial / 16777216), .ofNat 8 (serial / 65536),
      .ofNat 8 (serial / 256), .ofNat 8 serial, .ofNat 8 (resultCode result)])
  | .hdata dst serialLow index count data => (.ofNat 8 dst.val, 9#8,
    [.ofNat 8 (serialLow.toNat / 256), .ofNat 8 serialLow.toNat, .ofNat 8 (16 * (index % 16) + count % 16)] ++ data)
  | .hnone dst reason => (.ofNat 8 dst.val, 11#8, [.ofNat 8 (noneReasonCode reason)])
  | .hbusy dst => (.ofNat 8 dst.val, 12#8, [])
  | .report dst payload => (.ofNat 8 dst.val, 19#8, payload)
  | .alert kind => (255#8, 21#8, [0#8, .ofNat 8 (kindCode kind)])
  | .trip cause zone => (255#8, 21#8, [1#8, .ofNat 8 (causeCode cause), .ofNat 8 zone.val])
  | .answer dst kind verdict => (.ofNat 8 dst.val, 21#8, [2#8, kind, .ofNat 8 (verdictCode verdict)])

/-- The bytes of a part record (R198), byte by byte: multi-byte fields high byte first, the reasons by the bits of R197, and
three bytes for each ply in the order of placement. -/
def recordBytes (r : PartRecord) : List Byte :=
  [.ofNat 8 r.station.val, .ofNat 8 (r.epoch.toNat / 256), .ofNat 8 r.epoch.toNat,
    .ofNat 8 (r.serial / 16777216), .ofNat 8 (r.serial / 65536), .ofNat 8 (r.serial / 256), .ofNat 8 r.serial,
    .ofNat 8 r.recipe.val, .ofNat 8 (resultCode r.result),
    .ofNat 8 ((if r.reasons.undercure then 1 else 0) + (if r.reasons.overcure then 2 else 0) +
      (if r.reasons.liftLate then 4 else 0) + (if r.reasons.zoneLost then 8 else 0) +
      (if r.reasons.predecessorLost then 16 else 0) + (if r.reasons.curePresent then 32 else 0)),
    .ofInt 8 (r.total / 65536), .ofInt 8 (r.total / 256), .ofInt 8 r.total, .ofNat 8 r.plies.length,
    .ofNat 8 (r.dReq / 16777216), .ofNat 8 (r.dReq / 65536), .ofNat 8 (r.dReq / 256), .ofNat 8 r.dReq,
    .ofNat 8 (r.dOpen / 16777216), .ofNat 8 (r.dOpen / 65536), .ofNat 8 (r.dOpen / 256), .ofNat 8 r.dOpen,
    .ofNat 8 (r.dOver / 16777216), .ofNat 8 (r.dOver / 65536), .ofNat 8 (r.dOver / 256), .ofNat 8 r.dOver,
    .ofNat 8 (r.cureSecs / 256), .ofNat 8 r.cureSecs, .ofInt 8 (r.tLow / 256), .ofInt 8 r.tLow,
    .ofInt 8 (r.tHigh / 256), .ofInt 8 r.tHigh, .ofNat 8 (r.curtailed / 256), .ofNat 8 r.curtailed,
    .ofNat 8 (r.holdSecs / 256), .ofNat 8 r.holdSecs, .ofNat 8 (r.liftWait / 256), .ofNat 8 r.liftWait] ++
  r.plies.flatMap fun m => [.ofInt 8 (m / 65536), .ofInt 8 (m / 256), .ofInt 8 m]

/-! ### What a change queues or starts (R97 to R99, R128, R129, R167) -/

/-- SHARE waits in the queue, each field as it stands (R99). -/
def State.ShareWaits (s : State) : Prop :=
  ∃ e ∈ s.line.queue, e.inFlight = false ∧ e.msg =
    .share s.share.claim s.share.ceiling s.cfg.budget s.share.starved s.mode s.cycle.st s.ownPos

/-- The share record with its starved state `b`: a change to set starts the starve timer, a change to clear stops it and ends
the STARVED condition, and without a change both stay (R97, R98). -/
def Share.starvedAs (h : Share) (b : Bool) : Share :=
  { h with
    starved := b
    starveTimer := if b = h.starved then h.starveTimer else if b then some 60000 else none
    starvedCond := if b = false ∧ h.starved = true then false else h.starvedCond }

/-- A new own ask has been made on the lift record `l`, giving the state `t` (R128): the own ask number has advanced, and the
ask is outstanding with its ASK waiting in the queue; where a full queue refused it, it is not outstanding and the re-ask
timer holds its number (R129, R167). -/
def AskMade (l : Lift) (t : State) : Prop :=
  t.lift = { l with ownAsk := l.ownAsk + 1#8, outstanding := t.lift.outstanding, reAsk := t.lift.reAsk } ∧
  ((t.lift.outstanding = some (l.ownAsk + 1#8) ∧ t.lift.reAsk = l.reAsk ∧
      newEntry (.ask (l.ownAsk + 1#8)) ∈ t.line.queue) ∨
    (t.lift.outstanding = none ∧ t.lift.reAsk = some (l.ownAsk + 1#8) ∧ 12 ≤ t.line.queue.length ∧
      ∀ e ∈ t.line.queue, e.msg.cls = 3 → e.inFlight = true))

/-! ### Raised kinds (R185) -/

/-- Exactly the kinds `ks` have been raised between `s` and `t`: their flags are set, and every other flag, and the CONFIG
condition, is as it was. -/
def Raised (ks : List Kind) (s t : State) : Prop :=
  t.attn = { s.attn with raw := t.attn.raw } ∧ ∀ k, t.flag k = (s.flag k || decide (k ∈ ks))

/-! ### The reports of readiness (R3, R20, R55) -/

/-- The cycle has moved from `s` to `t` by the Zone Unit's reports alone (R3): from WARMING to LOADING exactly where the
station has become ready, that is was not ready, or becomes so again at once under a condition that has come anew with a
soak time of 0 (R55), and from LOADING to WARMING exactly where readiness is lost; in every other state, FAULTED among them,
it stays (R20). A move queues SHARE (R99). -/
def MovedByReadiness (s t : State) : Prop :=
  t.cycle.st = (
    if s.cycle.st = .warming ∧ t.zu.ready = true ∧
      (s.zu.ready = false ∨ (s.zu.allInBand ≠ t.zu.allInBand ∧ s.cfg.soak = 0)) then .loading
    else if s.cycle.st = .loading ∧ s.zu.ready = true ∧ t.zu.ready = false then .warming
    else s.cycle.st) ∧
  (t.cycle.st ≠ s.cycle.st → s.mode ≠ .cold → s.line.queue.length < 12 → t.ShareWaits)

/-! ### What the mode entries and the trip leave (R35, R59, R78, R100 to R103, R177 to R180) -/

/-- Entry to COLD from `s`, the state before the entry, to `t`: the mode is COLD; WARMING and LOADING become IDLE with the
blocker NONE, any other cycle state stays (R2, R4); every zone is OFF and out of band, with everything else of its entry
kept (R35), but no duty where there was a load (R87); weighing stops, BUILD and STAGED are discarded, tare, latest mass,
PRESS and recipe are kept (R59, R78); the claim is 0, no raise is pending, the station is not starved, the SHARE timer is
stopped, and the duties scaled anew set the curtailed mark (R87, R103); the re-ask timer is stopped (R136); the wake timer
runs where wake minutes are configured (R178); the raw flags are those of the level kinds whose condition holds, and
CHARGE_DISCARDED where the entry found a charge (R78, R187); LEAVE is queued where there is room (R101). -/
def ColdEntry (s t : State) : Prop :=
  t.mode = .cold ∧
  t.cycle.st = (if s.cycle.st = .warming ∨ s.cycle.st = .loading then .idle else s.cycle.st) ∧
  t.cycle.blocker = (if s.cycle.st = .warming ∨ s.cycle.st = .loading then .clear else s.cycle.blocker) ∧
  (∀ z, t.zone z = { s.zone z with
    state := .off, inBand := false
    duty := if (s.zoneCfg z).enabled = true ∧ s.share.load = 0 then (s.zone z).d else 0 }) ∧
  t.weigh = { s.weigh with link := .inactive, window := [], lossTimer := none, build := emptyBuild, staged := none } ∧
  t.share = { s.share with
    claim := 0, raising := none, starved := false, shareTimer := none
    curtailed := zoneIds.any fun z => decide ((t.zone z).duty < (s.zone z).d)
    starveTimer := if s.share.starved then none else s.share.starveTimer
    starvedCond := if s.share.starved then false else s.share.starvedCond } ∧
  t.ml.wakeTimer = (if 0 < s.cfg.wakeMinutes ∧ s.cfg.good = true then some (s.cfg.wakeMinutes * 60000) else none) ∧
  t.attn.raw = t.levelFlags |||
    (if s.weigh.build.state ≠ .empty ∨ s.weigh.staged.isSome = true then kindBit .chargeDiscarded else 0#16) ∧
  (s.line.queue.length < 12 → newEntry .leave ∈ t.line.queue) ∧
  t = { s with
    ml := { s.ml with mode := .cold, wakeTimer := t.ml.wakeTimer }
    cycle := { s.cycle with st := t.cycle.st, blocker := t.cycle.blocker }, zu := { s.zu with
      table := t.zu.table, allInBand := t.zu.allInBand, soakCount := t.zu.soakCount, soakTimer := t.zu.soakTimer
      ready := t.zu.ready }
    weigh := t.weigh, share := t.share, lift := { s.lift with reAsk := none }
    line := { s.line with queue := t.line.queue }
    hist := { s.hist with reply := t.hist.reply, piece := t.hist.piece }, attn := { s.attn with raw := t.attn.raw } }

/-- The state in which an enabled zone leaves OFF or LOCKED_OUT under setpoint `sp`, by its mark, its reading and the margin
(R35, R53). -/
def letGo (sp margin : Int) (z : Zone) : ZoneState :=
  if z.lockout = true then .lockedOut
  else if z.valid = false then .sensorFault
  else if sp + margin < z.temp then .overheat
  else .active

/-- The state of a zone after its valid reading has been tested against a changed setpoint `sp` (R34, R37). -/
def retested (sp margin : Int) (z : Zone) : ZoneState :=
  if z.valid = true ∧ z.state = .active ∧ sp + margin < z.temp then .overheat
  else if z.valid = true ∧ z.state = .overheat ∧ z.temp < sp + margin / 2 then .active
  else z.state

/-- Entry to STANDBY or RUN, `m`, from `s` to `u`, up to the start of zone control: the mode is `m` and the wake timer is
stopped; the cycle moves as R2 states, with the blocker NONE where that puts it in IDLE, and kept otherwise (R4); from COLD
or TRIPPED each enabled zone has left OFF as R35 states, and between STANDBY and RUN the zones are tested against a changed
setpoint (R34), OVERHEAT being raised exactly where a zone enters it (R37); nothing else of a zone's entry changes; from COLD
weighing and the SHARE timer have started, and else they run on (R59, R100); slots, tare and recipe are kept (R79); SHARE
carries the new mode (R99), and from COLD a DROP is queued for an OVERDUE head (R126). -/
def HotSettled (m : Mode) (s u : State) : Prop :=
  u.mode = m ∧ u.ml.wakeTimer = none ∧
  u.weigh = (if s.mode = .cold then { s.weigh with link := .weighing, window := [], lossTimer := some 100 }
    else s.weigh) ∧
  u.share = { s.share with shareTimer := if s.mode = .cold then some 1000 else s.share.shareTimer } ∧
  u.lift.overdue = (s.lift.overdue && !(decide (s.mode = .cold) && s.cfg.liftUsed && s.cfg.good && !s.lift.view.isEmpty)) ∧
  (s.mode = .cold → s.lift.overdue = true → s.cfg.liftUsed = true → s.cfg.good = true → ∀ e ∈ s.lift.view.head?,
    s.line.queue.length + 4 ≤ 12 → newEntry (.drop e.station e.ask) ∈ u.line.queue) ∧
  (s.mode = .cold ∨ s.mode = .tripped → ∀ sp ∈ u.setpoint, ∀ z, (u.zone z).state =
    if (s.zoneCfg z).enabled then letGo sp s.cfg.margin (s.zone z) else (s.zone z).state) ∧
  (s.mode = .standby ∨ s.mode = .run → ∀ sp ∈ u.setpoint, ∀ z, (u.zone z).state =
    if s.setpoint = some sp then (s.zone z).state else retested sp s.cfg.margin (s.zone z)) ∧
  Raised (if zoneIds.any (fun z => decide ((s.zone z).state ≠ .overheat) && decide ((u.zone z).state = .overheat))
    then [.overheat] else []) s u ∧
  (∀ z, u.zone z = { s.zone z with
    state := (u.zone z).state, inBand := (u.zone z).inBand, entered := (u.zone z).entered }) ∧
  (m = .standby → u.cycle.st = if s.cycle.st = .warming ∨ s.cycle.st = .loading then .idle else s.cycle.st) ∧
  (m = .run → s.cycle.st = .idle → u.cycle.st = if u.zu.ready then .loading else .warming) ∧
  (m = .run → s.cycle.st ≠ .idle → s.cycle.st ≠ .warming → s.cycle.st ≠ .loading → u.cycle.st = s.cycle.st) ∧
  u.cycle.blocker = (if m = .standby ∧ (s.cycle.st = .warming ∨ s.cycle.st = .loading) then .clear
    else s.cycle.blocker) ∧
  (s.line.queue.length + 4 ≤ 12 → u.ShareWaits) ∧
  u = { s with
    ml := { s.ml with mode := m, wakeTimer := none }
    cycle := { s.cycle with st := u.cycle.st, blocker := u.cycle.blocker }, zu := { s.zu with
      table := u.zu.table, allInBand := u.zu.allInBand, soakCount := u.zu.soakCount, soakTimer := u.zu.soakTimer
      ready := u.zu.ready }
    weigh := u.weigh, share := u.share, lift := { s.lift with overdue := u.lift.overdue }
    line := { s.line with queue := u.line.queue }
    hist := { s.hist with reply := u.hist.reply, piece := u.hist.piece }, attn := u.attn }

/-- The window position at which zone `z` of station `own` starts: its lead-in of o_z = (25 z + 12 s) mod 200 steps, or step
0 of its first window where o_z is 0 (R33, R43). -/
def startPos (z : ZoneId) (own : Station) : WinPos :=
  if (25 * z.val + 12 * own.val) % 200 = 0 then .step 0 else .leadIn ((25 * z.val + 12 * own.val) % 200)

/-- Zone control has just started on `u`, its first control tick not yet taken (R33): the control tick timer runs with 2000
ms, and every zone has its offset and stands at the start of its lead-in. -/
def State.zoneControlOn (u : State) : State :=
  { u with zu := { u.zu with
    control := some 2000, table := Vector.ofFn fun z => { u.zone z with
      offset := (25 * z.val + 12 * u.own.val) % 200, pos := startPos z u.own } } }

/-- Entry to STANDBY or RUN, `m`, from `s` to `t`: where zone control runs, it settles as `HotSettled` states; where it does
not, zone control starts on the state so settled, and the first control tick is taken within the entry (R33, R40), last in it
by log 11. -/
def HotEntry (m : Mode) (s t : State) : Prop :=
  (s.zoneControl = true → HotSettled m s t) ∧
  (s.zoneControl = false → ∃ u x : State, HotSettled m s u ∧
    exec .controlTick { u.zoneControlOn with power := .running } = .next x ∧ t = { x with power := s.power }) ∧
  (s.line.queue.length + 4 ≤ 12 → t.ShareWaits)

/-- The own echo has been taken intact: the entry in flight has left the queue, and the slot reference is set with the own
number (R161, R162). -/
def State.echoed (s : State) : State :=
  { s with line := { s.line with
    queue := s.line.queue.filter (fun e => !e.inFlight), idle := true, lastSender := s.own } }

/-- The transmit queue has room for `k` more entries of any class (R164, R167). -/
def State.room (s : State) (k : Nat) : Prop :=
  s.line.queue.length + k ≤ 12 ∧ class3Count s.line.queue + k ≤ 5

/-- The reply goes on as a class 3 entry of message `m` leaves the queue, from `b`, the state without the entry, to `t`
(R151, R152): a piece that left, or a piece that waits for room, lets the next one be offered; after the last one the reply
ends; any other entry, and one with no reply under way, does nothing more. -/
def ReplyGoesOn (m : Msg) (b t : State) : Prop :=
  (b.hist.reply = none → t = { b with hist := { b.hist with piece := if m.isHdata then none else b.hist.piece } }) ∧
  (∀ r ∈ b.hist.reply,
    (m.isHdata = false → b.hist.piece.isSome = true ∨ r.count ≤ r.next → t = b) ∧
    (m.isHdata = true → r.count ≤ r.next → t = { b with hist := { b.hist with reply := none, piece := none } }) ∧
    (m.isHdata = true ∨ b.hist.piece = none → r.next < r.count →
      (¬b.room 1 → t = { b with hist := { b.hist with piece := none } }) ∧
      (b.room 1 → ∃ data, data.length = 9 ∧
        (∀ i : Nat, i < 9 → data.getD i 0#8 = r.bytes.getD (9 * r.next + i) 0#8) ∧
        t = { b with
          hist := { b.hist with piece := some r.next, reply := some { r with next := r.next + 1 } }
          line := { b.line with
            queue := b.line.queue ++ [newEntry (.hdata r.dst r.serialLow r.next r.count data)] } })))

/-- The record written for the charge `c` under the reserved serial `n` with result `res`, from the figures of `s`: the
contents of R28 and R29, the store's own fields (R145), and the cure fields 0 without CURE_PRESENT (R147). -/
def State.recordFor (s : State) (c : Charge) (n : Nat) (res : Result) : PartRecord :=
  { station := s.own, epoch := s.hist.epoch, serial := n, recipe := c.recipe, result := res
    reasons := { s.cycle.reasons with predecessorLost := s.hist.predecessorLost }
    total := c.total, plies := c.plies, dReq := s.cycle.dReq
    dOpen := if s.cycle.reasons.curePresent then s.cycle.dose else 0
    dOver := if s.cycle.reasons.curePresent then s.cycle.dOver else 0
    cureSecs := if s.cycle.reasons.curePresent then min 65535 s.cycle.elapsed else 0
    tLow := if s.cycle.reasons.curePresent then s.cycle.tLow else 0
    tHigh := if s.cycle.reasons.curePresent then s.cycle.tHigh else 0
    curtailed := if s.cycle.reasons.curePresent then min 65535 s.cycle.curtailed else 0
    holdSecs := min 65535 s.cycle.holdSecs
    liftWait := if s.cycle.reasons.curePresent then min 65535 s.cycle.liftWait else 0 }

/-- The part in PRESS has gone from `s` to `t`: PRESS is empty, and its record, where one was reserved, is STORED as the
newest with result `res` (R18, R21, R75, R145). -/
def PartGone (res : Result) (s t : State) : Prop :=
  t.weigh.press = none ∧
  (∀ c ∈ s.weigh.press, ∀ n ∈ s.hist.reserved,
    t.hist = { s.hist with
      stored := s.hist.stored ++ [s.recordFor c n res], reserved := none, predecessorLost := false
      reply := t.hist.reply, piece := t.hist.piece }) ∧
  (s.weigh.press = none ∨ s.hist.reserved = none →
    t.hist = { s.hist with reply := t.hist.reply, piece := t.hist.piece })

/-- PART with the epoch, the serial and the result `res` of the record of the part in PRESS waits in the queue, where it
found room (R145, R149, R167). -/
def PartTold (res : Result) (s t : State) : Prop :=
  s.weigh.press.isSome = true → ∀ n ∈ s.hist.reserved, s.line.queue.length + 6 ≤ 12 → class3Count s.line.queue < 5 →
    newEntry (.part s.hist.epoch n res) ∈ t.line.queue

/-- The number of the own ask to withdraw: the outstanding ask, or else the own entry's (R132). -/
def State.withdrawable (s : State) : Option Byte := s.lift.outstanding.or (s.ownEntry.map (·.ask))

/-- What entry to FAULTED leaves of the cycle (R18): the state FAULTED, every timer stopped, CLOSE_CMD and LIFT_CALL
released, OPEN_CMD asserted exactly as a recovery opening, the deferred ask cleared, the part aborted with its PART queued
(R29, R145), and the own ask or entry withdrawn; SHARE carries the state FAULTED, outside COLD (R99). -/
def FaultLeaves (s t : State) : Prop :=
  t.cycle.st = .faulted ∧ t.cycle.closeTimer = none ∧ t.cycle.openTimer = none ∧ t.cycle.doseTimer = none ∧
  t.cycle.holdTimer = none ∧ t.cycle.deferred = false ∧ t.lines.closeCmd = false ∧ t.lines.liftCall = false ∧
  t.lines.openCmd = ((s.lines.closedIn || decide (s.cycle.st = .opening)) && !s.lines.openedIn) ∧
  t.cycle.recovery = t.lines.openCmd ∧
  t.lines = { s.lines with
    closeCmd := false, openCmd := t.lines.openCmd, liftCall := false, tripOut := t.lines.tripOut } ∧
  t.cycle = { s.cycle with
    st := .faulted, closeTimer := none, openTimer := none, doseTimer := none, holdTimer := none, deferred := false
    recovery := t.cycle.recovery } ∧
  PartGone .aborted s t ∧ PartTold .aborted s t ∧
  (∀ n ∈ s.withdrawable, s.cfg.liftUsed = true → s.line.queue.length < 12 → newEntry (.done n true) ∈ t.line.queue) ∧
  (t.mode ≠ .cold → s.line.queue.length + 6 ≤ 12 → t.ShareWaits)

/-- Entry to TRIPPED by a trip request of `cause` at `z`, from `s` to `t` (R180): TRIP is asserted, the pending mode and the
wake timer are gone; every zone is OFF and out of band with its integrator at 0, without duty where there was a load, and
everything else of its entry kept; the claim is 0 with no raise and not starved (R103); the cycle is FAULTED, as R18 states,
unless it was so before and stays as it is (R19, log 19); from COLD weighing and the SHARE timer start (R59, R100) and a DROP
is queued for an OVERDUE head (R126); TRIPPED alone is raised; the TRIP message and SHARE are queued (R99). -/
def TripEntry (cause : TripCause) (z : ZoneId) (s t : State) : Prop :=
  t.ml = { mode := .tripped, pendingMode := none, wakeTimer := none } ∧ t.lines.tripOut = true ∧
  (∀ y, t.zone y = { s.zone y with
    state := .off, integ := 0, inBand := false
    duty := if (s.zoneCfg y).enabled = true ∧ s.share.load = 0 then (s.zone y).d else 0 }) ∧
  t.share = { s.share with
    claim := 0, raising := none, starved := false
    curtailed := zoneIds.any fun y => decide ((t.zone y).duty < (s.zone y).d)
    shareTimer := if s.mode = .cold then some 1000 else s.share.shareTimer
    starveTimer := if s.share.starved then none else s.share.starveTimer
    starvedCond := if s.share.starved then false else s.share.starvedCond } ∧
  (s.cycle.st ≠ .faulted → FaultLeaves s t) ∧
  (s.cycle.st = .faulted → t.cycle = s.cycle ∧ t.lines = { s.lines with tripOut := true } ∧
    t.hist = { s.hist with reply := t.hist.reply, piece := t.hist.piece }) ∧
  t.weigh = { s.weigh with
    press := if s.cycle.st = .faulted then s.weigh.press else none
    link := if s.mode = .cold then .weighing else s.weigh.link
    window := if s.mode = .cold then [] else s.weigh.window
    lossTimer := if s.mode = .cold then some 100 else s.weigh.lossTimer } ∧
  Raised [.tripped] s t ∧
  t.lift.overdue = (s.lift.overdue && !(decide (s.mode = .cold) && s.cfg.liftUsed && s.cfg.good && !s.lift.view.isEmpty)) ∧
  (s.mode = .cold → s.lift.overdue = true → s.cfg.liftUsed = true → s.cfg.good = true → ∀ e ∈ s.lift.view.head?,
    s.line.queue.length + 6 ≤ 12 → newEntry (.drop e.station e.ask) ∈ t.line.queue) ∧
  t = { s with
    ml := t.ml, lines := t.lines, cycle := t.cycle, zu := { s.zu with
      table := t.zu.table, allInBand := t.zu.allInBand, soakCount := t.zu.soakCount, soakTimer := t.zu.soakTimer
      ready := t.zu.ready }
    weigh := t.weigh, share := t.share, lift := { s.lift with reAsk := none, overdue := t.lift.overdue }
    line := { s.line with queue := t.line.queue }, hist := t.hist, attn := t.attn } ∧
  (s.room 4 → newEntry (.trip cause z) ∈ t.line.queue) ∧ (s.line.queue.length + 6 ≤ 12 → t.ShareWaits)

/-- Zone `z` has taken the valid reading `reading`, at or above the absolute limit with its mark clear, from `s` to `u`, the
state in which its trip request is handed over (R36, R37, R39): the reading stands with its age restarted, the mark is set,
and the zone has moved by R37, raising OVERHEAT where it entered it. Of the other zones only the in-band flags can change,
with the readiness that follows from them, by whose reports alone the cycle moves (R3). -/
def LimitReached (z : ZoneId) (reading : Int) (s u : State) : Prop :=
  u.zone z = { s.zone z with
    temp := reading, valid := true, loss := some 1000, overLimit := true
    state := (u.zone z).state, inBand := (u.zone z).inBand, entered := (u.zone z).entered } ∧
  (∀ sp ∈ s.setpoint,
    ((s.zone z).state = .active ∨ (s.zone z).state = .sensorFault →
      (u.zone z).state = if sp + s.cfg.margin < reading then .overheat else .active) ∧
    ((s.zone z).state = .overheat →
      (u.zone z).state = if reading < sp + s.cfg.margin / 2 then .active else .overheat)) ∧
  ((s.zone z).state = .off ∨ (s.zone z).state = .lockedOut ∨ s.setpoint = none →
    (u.zone z).state = (s.zone z).state) ∧
  Raised (if (u.zone z).state = .overheat ∧ (s.zone z).state ≠ .overheat then [.overheat] else []) s u ∧
  (∀ y, y ≠ z → u.zone y = { s.zone y with inBand := (u.zone y).inBand }) ∧
  MovedByReadiness s u ∧
  u = { s with
    zu := { s.zu with
      table := u.zu.table, allInBand := u.zu.allInBand, soakCount := u.zu.soakCount, soakTimer := u.zu.soakTimer
      ready := u.zu.ready }
    cycle := { s.cycle with st := u.cycle.st }, line := { s.line with queue := u.line.queue }
    hist := { s.hist with reply := u.hist.reply, piece := u.hist.piece }, attn := u.attn }

/-- A 10 ms step that ends no window has been taken from `s` to `u`, up to its stuck requests (R43, R47): of every zone's
entry only the position, the mark of R45 and the monitor's figures have moved, and nothing outside the zone table. -/
def StepTaken (s u : State) : Prop :=
  (∀ y, u.zone y = { s.zone y with
    pos := (u.zone y).pos, runOn := (u.zone y).runOn, runLen := (u.zone y).runLen
    stuckSent := (u.zone y).stuckSent, onStep := (u.zone y).onStep, seen := (u.zone y).seen
    quiet := (u.zone y).quiet, entered := false }) ∧
  u = { s with zu := { s.zu with table := u.zu.table } }

/-! ### CLEAR (R21, R53, R158, R182, R187) -/

/-- What CLEAR leaves: the cycle timers stopped, the press lines as R21 gives them, the part aborted, the own ask or entry
withdrawn, the cycle in the state of the mode that results with the blocker NONE, the receive errors 0 (R158). The mode is
the pending one where PRESS held a part, and STANDBY where a trip's causes are gone (R182). Every zone has its lockout mark
and open count cleared, and keeps its integrator, reading, over-limit mark, d, d' and windows (R53), but for the d' that an
applied pending COLD takes away and for the start of zone control. A zone in LOCKED_OUT is let go, a release lets every
enabled zone go, an applied pending STANDBY tests the zones against its setpoint, an applied pending COLD turns them OFF,
and any other zone stays in its state. The raw flags are those of the level kinds whose condition holds, with OVERHEAT
exactly where a zone entered it within the event, and, with an applied pending COLD, with CHARGE_DISCARDED exactly where it
found a charge (R187). PART of the aborted record is queued (R29, R145), SHARE where the mode or the cycle state changes
(R99, R182), and LEAVE where a pending COLD is applied (R101). Zone control that runs goes on, and one that does not is
started by an entry to STANDBY or RUN alone, with its offsets and lead-ins (R33, R43). Views, entries, hold, claim, build
and store stay. -/
def ClearLeaves (s t : State) : Prop :=
  t.cycle.closeTimer = none ∧ t.cycle.openTimer = none ∧ t.cycle.doseTimer = none ∧ t.cycle.holdTimer = none ∧
  t.cycle.deferred = false ∧ t.cycle.blocker = .clear ∧ t.cycle.lineHold = s.cycle.lineHold ∧
  t.lines.closeCmd = false ∧ t.lines.liftCall = false ∧ t.lines.openCmd = (s.lines.closedIn && !s.lines.openedIn) ∧
  t.cycle.recovery = t.lines.openCmd ∧
  t.lines = { s.lines with
    closeCmd := false, openCmd := t.lines.openCmd, liftCall := false, tripOut := t.lines.tripOut } ∧
  t.cycle = { s.cycle with
    st := t.cycle.st, closeTimer := none, openTimer := none, doseTimer := none, holdTimer := none, deferred := false
    recovery := t.cycle.recovery, blocker := .clear } ∧
  PartGone .aborted s t ∧ PartTold .aborted s t ∧
  (∀ n ∈ s.withdrawable, s.cfg.liftUsed = true → s.line.queue.length < 12 →
    newEntry (.done n true) ∈ t.line.queue) ∧
  (t.mode ≠ .cold → t.mode ≠ s.mode ∨ t.cycle.st ≠ s.cycle.st → s.line.queue.length + 6 ≤ 12 → t.ShareWaits) ∧
  (s.weigh.press.isSome = true → s.ml.pendingMode = some .cold → s.line.queue.length + 6 ≤ 12 →
    newEntry .leave ∈ t.line.queue) ∧
  (s.zoneControl = true → t.zu.control = s.zu.control) ∧
  (s.zoneControl = false →
    (s.ml.pendingMode = none ∨ s.weigh.press = none →
      t.zu.control = if s.mode = .tripped ∧ s.causesGone = true then some 2000 else none) ∧
    (s.weigh.press.isSome = true → s.ml.pendingMode = some .cold → t.zu.control = none) ∧
    (s.weigh.press.isSome = true → s.ml.pendingMode = some .standby → t.zu.control = some 2000) ∧
    (t.zu.control = some 2000 → ∀ z, (t.zone z).offset = (25 * z.val + 12 * s.own.val) % 200 ∧
      (t.zone z).pos = startPos z s.own)) ∧
  t.cycle.st = (if t.mode = .run then (if t.zu.ready then .loading else .warming) else .idle) ∧
  (∀ z, (t.zone z).lockout = false ∧ (t.zone z).opens = 0 ∧ (t.zone z).temp = (s.zone z).temp ∧
    (t.zone z).overLimit = (s.zone z).overLimit ∧
    (∀ sp ∈ t.setpoint, (s.zoneCfg z).enabled = true → (s.zone z).state = .lockedOut →
      (t.zone z).state = letGo sp s.cfg.margin { s.zone z with lockout := false })) ∧
  (s.zoneControl = true ∨
      ((s.ml.pendingMode = none ∨ s.weigh.press = none) ∧ ¬(s.mode = .tripped ∧ s.causesGone = true)) →
    ∀ z, t.zone z = { s.zone z with
        lockout := false, opens := 0, state := (t.zone z).state, inBand := (t.zone z).inBand
        entered := (t.zone z).entered, duty := (t.zone z).duty } ∧
      (s.ml.pendingMode ≠ some .cold ∨ s.weigh.press = none → (t.zone z).duty = (s.zone z).duty)) ∧
  (s.ml.pendingMode = none ∨ s.weigh.press = none →
    t.mode = (if s.mode = .tripped ∧ s.causesGone = true then .standby else s.mode) ∧
    t.lines.tripOut = (if s.mode = .tripped ∧ s.causesGone = true then false else s.lines.tripOut) ∧
    t.ml = { s.ml with
      mode := t.mode, wakeTimer := if s.mode = .tripped ∧ s.causesGone = true then none else s.ml.wakeTimer } ∧
    t.weigh = { s.weigh with press := none } ∧
    (s.zoneControl = true ∨ s.mode ≠ .tripped ∨ s.causesGone = false → t.share = s.share) ∧
    (s.mode = .tripped → s.causesGone = true → ∀ z, (t.zone z).state =
      if (s.zoneCfg z).enabled then letGo s.cfg.standbySp s.cfg.margin { s.zone z with lockout := false }
      else (s.zone z).state) ∧
    (s.mode ≠ .tripped ∨ s.causesGone = false → ∀ z,
      (s.zone z).state ≠ .lockedOut ∨ (s.zoneCfg z).enabled = false ∨ s.setpoint = none →
        (t.zone z).state = (s.zone z).state)) ∧
  (s.weigh.press.isSome = true → s.ml.pendingMode = some .cold →
    t.mode = .cold ∧ t.ml.pendingMode = none ∧ (∀ z, (t.zone z).state = .off) ∧
    t.ml.wakeTimer = (if 0 < s.cfg.wakeMinutes ∧ s.cfg.good = true then some (s.cfg.wakeMinutes * 60000) else none) ∧
    t.lines.tripOut = s.lines.tripOut ∧ t.share.claim = 0 ∧ t.share.raising = none ∧ t.share.starved = false ∧
    t.share.shareTimer = none ∧ t.weigh = { s.weigh with
      link := .inactive, window := [], lossTimer := none, build := emptyBuild, staged := none, press := none } ∧
    t.attn.raw = t.levelFlags |||
      (if s.weigh.build.state ≠ .empty ∨ s.weigh.staged.isSome = true then kindBit .chargeDiscarded else 0#16)) ∧
  (s.weigh.press.isSome = true → s.ml.pendingMode = some .standby →
    t.ml = { mode := .standby, pendingMode := none, wakeTimer := none } ∧ t.lines.tripOut = s.lines.tripOut ∧
    (s.mode ≠ .cold → t.weigh = { s.weigh with press := none } ∧ (s.zoneControl = true → t.share = s.share)) ∧
    (s.mode = .run → ∀ z, (s.zone z).state ≠ .lockedOut → (t.zone z).state =
      if s.recipe.cureSp = s.cfg.standbySp then (s.zone z).state
      else retested s.cfg.standbySp s.cfg.margin (s.zone z))) ∧
  (s.weigh.press = none ∨ s.ml.pendingMode = none ∨
      (s.ml.pendingMode ≠ some .cold ∧ (s.mode = .standby ∨ s.mode = .run)) →
    t.attn.raw = t.levelFlags ||| (if zoneIds.any (fun z =>
      decide ((s.zone z).state ≠ .overheat) && decide ((t.zone z).state = .overheat)) then kindBit .overheat else 0#16)) ∧
  t = { s with
    ml := t.ml, lines := t.lines, cycle := t.cycle, zu := t.zu, weigh := t.weigh, share := t.share
    lift := { s.lift with reAsk := none, overdue := t.lift.overdue }
    line := { s.line with queue := t.line.queue, errors := 0 }, hist := t.hist
    attn := { s.attn with raw := t.attn.raw } } ∧
  (s.mode ≠ .cold → t.lift.overdue = s.lift.overdue) ∧
  t.attn.raw &&& ~~~(kindBit .overheat ||| kindBit .chargeDiscarded) = t.levelFlags

/-! ### Mode requests (R175, R176) -/

/-- Going to the target mode `m` (R176): with PRESS empty the mode is entered at once; with PRESS occupied it is held as the
pending mode, and the mode in force as target clears the pending mode. -/
def GoesTo (m : Mode) (s t : State) : Prop :=
  (s.weigh.press = none → (m = .cold → ColdEntry s t) ∧ (m = .standby ∨ m = .run → HotEntry m s t)) ∧
  (s.weigh.press.isSome = true → t = { s with
    ml := { s.ml with pendingMode := if m = s.mode then none else some m } })

/-- A request with target `m` that moves the station only where `moves` holds, taken by a station that is not TRIPPED and,
for WAKE and START, has a good configuration; its outcome `v` (R175). -/
def RequestTaken (allowed moves : Bool) (m : Mode) (s t : State) (v : Verdict) : Prop :=
  (allowed = false → t = s ∧ v = .refusedMode) ∧
  (allowed = true → v = .taken ∧ (moves = true → GoesTo m s t) ∧ (moves = false → t = s))

/-! ### Updates of the peer entries (R84, R93, R117) -/

/-- What the peers count (R84, R85, R94). Their budgets: while FRESH or STALE, once they have held a SHARE. Their committed
and raise claims: nothing while ABSENT; FRESH the claim of the last SHARE, and for the raise claim the bound where it is
larger; STALE the ceiling of the last SHARE; a claim or ceiling counts 0 in an entry that has held no SHARE. The weights: 0
in TRIPPED, 2 in CURE and LIFT_WAIT, 1 otherwise, a peer's only while it is FRESH or STALE and has held a SHARE. -/
def PeersCounted (s : State) : Prop :=
  s.heardBudgets = s.budgetsHeard ∧
  s.oCommit = (stationIds.map fun p => if p = s.own then 0 else
    match (s.peer p).presence with
    | .absent => 0
    | .fresh => if (s.peer p).held then (s.peer p).claim else 0
    | .stale => if (s.peer p).held then (s.peer p).ceiling else 0).sum ∧
  s.oRaise = (stationIds.map fun p => if p = s.own then 0 else
    match (s.peer p).presence with
    | .absent => 0
    | .fresh => max (if (s.peer p).held then (s.peer p).claim else 0) ((s.peer p).bound.getD 0)
    | .stale => if (s.peer p).held then (s.peer p).ceiling else 0).sum ∧
  (∀ (m : Mode) (c : CycleState), weightOf m c =
    match m, c with
    | .tripped, _ => 0
    | _, .cure | _, .liftWait => 2
    | _, _ => 1) ∧
  s.weightSum = weightOf s.mode s.cycle.st + (stationIds.map fun p =>
    if p ≠ s.own ∧ (s.peer p).presence ≠ .absent ∧ (s.peer p).held = true
    then weightOf (s.peer p).mode (s.peer p).cycle else 0).sum

/-- The Share Unit has been handed the updated entries of `s` (R84, R93): the effective budget is the least of the own
budget and those heard, the mismatch mark says whether they differ, and a mark newly set raises BUDGET_MISMATCH; a claim
above what the budget leaves beside the others' is lowered to that, the duties and the curtailed mark follow it, a station
then below its desired claim is starved, and SHARE is queued; any other claim stays, with the duties and the starved state.
Nothing else changes. -/
def HandedOn (s t : State) : Prop :=
  t.share.bEff = s.budgetsHeard.foldl min s.cfg.budget ∧
  t.share.mismatch = s.budgetsHeard.any (fun b => b != s.cfg.budget) ∧
  Raised (if t.share.mismatch && !s.share.mismatch then [.budgetMismatch] else []) s t ∧
  t.share.claim = min s.share.claim (t.share.bEff - s.oCommit) ∧
  (s.share.claim ≤ t.share.bEff - s.oCommit →
    t.zu = s.zu ∧ t.share = { s.share with bEff := t.share.bEff, mismatch := t.share.mismatch }) ∧
  (t.share.bEff - s.oCommit < s.share.claim →
    (∀ z, (t.zone z).duty = if (s.zoneCfg z).enabled then
      (if s.share.load ≤ 20000 * t.share.claim then (s.zone z).d
        else (s.zone z).d * (20000 * t.share.claim) / s.share.load) else 0) ∧
    t.share.starved = (s.share.starved || decide (t.share.claim < s.share.want)) ∧
    t.share.curtailed = (zoneIds.any fun z => decide ((t.zone z).duty < (s.zone z).d)) ∧
    (s.mode ≠ .cold → s.line.queue.length + 1 < 12 → t.ShareWaits)) ∧
  (∀ z, t.zone z = { s.zone z with duty := (t.zone z).duty }) ∧
  t.share = { s.share with
    bEff := t.share.bEff, mismatch := t.share.mismatch, claim := t.share.claim, starved := t.share.starved
    curtailed := t.share.curtailed
    starveTimer := if t.share.starved = true ∧ s.share.starved = false then some 60000 else s.share.starveTimer } ∧
  t = { s with
    zu := { s.zu with table := t.zu.table }, share := t.share, line := { s.line with queue := t.line.queue }
    hist := { s.hist with reply := t.hist.reply, piece := t.hist.piece }, attn := t.attn }

/-! ### The lift view (R125, R130) -/

/-- The cycle record under the own number `own` and the view `v`: the mark of a passed entry goes with the own entry (R16,
log 24). -/
def Cycle.passedIn (c : Cycle) (own : Station) (v : List LiftEntry) : Cycle :=
  { c with passed := if v.any fun e => decide (e.station = own) then c.passed else none }

/-- The lift view has become `v` (R125): an unchanged head leaves its timer, its mark, the cycle and the lines; a new head
restarts the timer, or an empty view stops it, and the mark is NONE; the own entry as new head in LIFT_WAIT opens the press
(R9), or passes under a hard hold with a DONE under the number of that entry, also where another ask is outstanding (R16,
log 15), and the mark of that pass goes with the entry (log 24). A change of the own position or of the cycle state queues
SHARE (R99). -/
def ViewTaken (v : List LiftEntry) (s t : State) : Prop :=
  t.lift.view = v ∧
  (v.head? = s.lift.view.head? →
    t.lift.headTimer = s.lift.headTimer ∧ t.lift.overdue = s.lift.overdue ∧ t.lift.reAsk = s.lift.reAsk ∧
    t.lines = s.lines ∧ t.cycle = s.cycle.passedIn s.own v) ∧
  (v.head? ≠ s.lift.view.head? →
    t.lift.headTimer = (if v = [] then none else some (s.cfg.tHold * 1000)) ∧ t.lift.overdue = false) ∧
  (v.head? ≠ s.lift.view.head? → (v.all fun e => v.head? != some e || e.station != s.own) = true ∨ s.cycle.st ≠ .liftWait →
    t.lines = s.lines ∧ t.cycle = s.cycle.passedIn s.own v ∧ t.lift.reAsk = s.lift.reAsk) ∧
  (∀ e ∈ v.head?, v.head? ≠ s.lift.view.head? → e.station = s.own → s.cycle.st = .liftWait →
    (s.hold ≠ .hard → t.cycle.st = (if s.lines.openedIn then .demould else .opening) ∧ t.cycle.deferred = false ∧
      t.cycle.openTimer = (if s.lines.openedIn then none else some (s.recipe.openTimeout * 1000)) ∧
      t.cycle = { s.cycle with
        st := t.cycle.st, deferred := false, openTimer := t.cycle.openTimer
        doseTimer := if s.lines.openedIn then none else s.cycle.doseTimer } ∧
      t.lift.reAsk = s.lift.reAsk ∧
      t.lines = { s.lines with
        closeCmd := false, openCmd := true, liftCall := if s.lines.openedIn then s.cfg.liftUsed else s.lines.liftCall }) ∧
    (s.hold = .hard → t.lines = s.lines ∧ t.cycle = { s.cycle with deferred := true, passed := some e.ask } ∧
      t.lift.reAsk = (if s.cycle.passed = some e.ask then s.lift.reAsk else none) ∧
      (s.cycle.passed ≠ some e.ask → s.line.queue.length < 12 → newEntry (.done e.ask true) ∈ t.line.queue))) ∧
  (t.ownPos ≠ s.ownPos ∨ t.cycle.st ≠ s.cycle.st → s.mode ≠ .cold → s.line.queue.length + 2 ≤ 12 → t.ShareWaits) ∧
  t = { s with
    lift := t.lift, cycle := t.cycle, lines := t.lines, line := { s.line with queue := t.line.queue }, hist := t.hist } ∧
  t.lift = { s.lift with
    view := t.lift.view, headTimer := t.lift.headTimer, overdue := t.lift.overdue, reAsk := t.lift.reAsk } ∧
  t.hist = { s.hist with reply := t.hist.reply, piece := t.hist.piece }

/-! ### The configuration block (R191, R192, R199) -/

/-- One byte of the block. -/
def byteAt (bs : List Byte) (i : Nat) : Nat := (bs.getD i 0#8).toNat

/-- Two bytes of the block, high byte first (R196). -/
def twoAt (bs : List Byte) (i : Nat) : Nat := 256 * byteAt bs i + byteAt bs (i + 1)

/-- Three bytes of the block, high byte first (R196). -/
def threeAt (bs : List Byte) (i : Nat) : Nat := 256 * twoAt bs i + byteAt bs (i + 2)

/-- A number of `bits` bits read in two's complement (R196). -/
def signedOf (bits n : Nat) : Int := if n < 2 ^ (bits - 1) then (n : Int) else (n : Int) - 2 ^ bits

/-- The fields of the block `bs` stand in `c`, each read at its bytes (R199) and taken at the nearest limit of its range, or
as the table of R192 says where it is enumerated; a recipe at or above the recipe count is taken as stored. -/
def FieldsTaken (bs : List Byte) (c : Config) : Prop :=
  c.good = true ∧
  c.bitRate = (if byteAt bs 0 = 1 then 250 else if byteAt bs 0 = 2 then 500 else 125) ∧
  c.budget = twoAt bs 1 ∧
  (∀ z : ZoneId, c.zones[z] = {
    enabled := (bs.getD 3 0#8).getLsbD z.val
    power := max 100 (min (twoAt bs (4 + 2 * z.val)) 20000)
    kp := byteAt bs (20 + z.val), ki := byteAt bs (28 + z.val) }) ∧
  c.margin = max 10 (min (twoAt bs 36) 500) ∧
  c.tAbs = max 500 (min (signedOf 16 (twoAt bs 38)) 3000) ∧
  c.escalation = (match byteAt bs 40 with | 0 => 1 | 1 => 1 | 2 => 2 | 3 => 3 | 4 => 3 | _ => 5) ∧
  c.standbySp = max 0 (min (signedOf 16 (twoAt bs 41)) 2500) ∧
  c.band = max 1 (min (byteAt bs 43) 200) ∧
  c.soak = min (twoAt bs 44) 3600 ∧
  c.scaleZero = signedOf 24 (threeAt bs 46) ∧
  c.scaleK = max 1 (twoAt bs 49) ∧
  c.stableBand = max 1 (byteAt bs 51) ∧
  c.zeroBand = twoAt bs 52 ∧
  c.plyMatch = twoAt bs 54 ∧
  c.plyMin = max 1 (twoAt bs 56) ∧
  c.liftUsed = (bs.getD 58 0#8).getLsbD 0 ∧
  c.tHold = max 10 (min (twoAt bs 59) 600) ∧
  c.historyMode = (if byteAt bs 61 = 1 then .lenient else .strict) ∧
  c.enables.toNat = twoAt bs 62 ∧
  c.wakeMinutes = min (twoAt bs 64) 1440 ∧
  c.wakeMode = (if byteAt bs 66 = 2 then .run else .standby) ∧
  c.startMode = (match byteAt bs 67 with | 1 => .standby | 2 => .run | _ => .cold) ∧
  c.recipeCount = max 1 (min (byteAt bs 70) 8) ∧
  ∀ (r : Fin 8) (o : Nat), o = 71 + 20 * r.val → c.recipes[r] =
    (if r.val < c.recipeCount then {
      cureSp := max 500 (min (signedOf 16 (twoAt bs o)) 2500), tRef := max 500 (min (signedOf 16 (twoAt bs (o + 2))) 2500)
      dBase := max 1 (twoAt bs (o + 4)), tMin := twoAt bs (o + 6), tMax := max 1 (twoAt bs (o + 8))
      dOverMax := twoAt bs (o + 10), mTgt := max 1 (min (threeAt bs (o + 12)) 300000)
      tolPm := max 1 (min (byteAt bs (o + 15)) 100), plyMinCount := max 1 (min (byteAt bs (o + 16)) 24)
      plyMaxCount := max 1 (min (byteAt bs (o + 17)) 24), closeTimeout := max 1 (byteAt bs (o + 18))
      openTimeout := max 1 (byteAt bs (o + 19)) }
    else {
      cureSp := signedOf 16 (twoAt bs o), tRef := signedOf 16 (twoAt bs (o + 2)), dBase := twoAt bs (o + 4)
      tMin := twoAt bs (o + 6), tMax := twoAt bs (o + 8), dOverMax := twoAt bs (o + 10), mTgt := threeAt bs (o + 12)
      tolPm := byteAt bs (o + 15), plyMinCount := byteAt bs (o + 16), plyMaxCount := byteAt bs (o + 17)
      closeTimeout := byteAt bs (o + 18), openTimeout := byteAt bs (o + 19) })

/-- Every field of the block lies within its range, and every enumerated one holds a defined value (R192); recipes at or
above the recipe count are not checked. -/
def FieldsInRange (bs : List Byte) : Prop :=
  byteAt bs 0 ≤ 2 ∧
  (∀ z : ZoneId, 100 ≤ twoAt bs (4 + 2 * z.val) ∧ twoAt bs (4 + 2 * z.val) ≤ 20000) ∧
  (10 ≤ twoAt bs 36 ∧ twoAt bs 36 ≤ 500) ∧
  (500 ≤ twoAt bs 38 ∧ twoAt bs 38 ≤ 3000) ∧
  byteAt bs 40 ∈ [1, 2, 3, 5] ∧
  twoAt bs 41 ≤ 2500 ∧
  (1 ≤ byteAt bs 43 ∧ byteAt bs 43 ≤ 200) ∧
  twoAt bs 44 ≤ 3600 ∧
  1 ≤ twoAt bs 49 ∧ 1 ≤ byteAt bs 51 ∧ 1 ≤ twoAt bs 56 ∧
  (10 ≤ twoAt bs 59 ∧ twoAt bs 59 ≤ 600) ∧
  byteAt bs 61 ≤ 1 ∧
  twoAt bs 64 ≤ 1440 ∧
  (1 ≤ byteAt bs 66 ∧ byteAt bs 66 ≤ 2) ∧
  byteAt bs 67 ≤ 2 ∧
  (1 ≤ byteAt bs 70 ∧ byteAt bs 70 ≤ 8) ∧
  ∀ (r : Fin 8) (o : Nat), o = 71 + 20 * r.val → r.val < byteAt bs 70 →
    (500 ≤ twoAt bs o ∧ twoAt bs o ≤ 2500) ∧ (500 ≤ twoAt bs (o + 2) ∧ twoAt bs (o + 2) ≤ 2500) ∧
    1 ≤ twoAt bs (o + 4) ∧ 1 ≤ twoAt bs (o + 8) ∧
    (1 ≤ threeAt bs (o + 12) ∧ threeAt bs (o + 12) ≤ 300000) ∧
    (1 ≤ byteAt bs (o + 15) ∧ byteAt bs (o + 15) ≤ 100) ∧
    (1 ≤ byteAt bs (o + 16) ∧ byteAt bs (o + 16) ≤ 24) ∧
    (1 ≤ byteAt bs (o + 17) ∧ byteAt bs (o + 17) ≤ 24) ∧
    1 ≤ byteAt bs (o + 18) ∧ 1 ≤ byteAt bs (o + 19)

end Sys2Proof.Machine
end

