-- ==== Sys2Proof/Certificates/Slice0/Obligations.lean ====
section
/-! DEFINITION. The statements about the machine. Each says which rules of the spec it formalises; `exec c s = .next t`
with what `t` holds is the completion of command `c`, and `t = { s with ... }` is its frame: every field not named is
unchanged. -/

open Sys2Proof Sys2Proof.Machine

/-! ### The step and reset -/

/-- A step runs the command at the front of the queue on the state with the queue's rest; on an empty queue the part
idles, which is the model's choice (log 2). -/
def Obligations.StepRunsFrontCommand : Prop :=
  ∀ (s : State) (c : Instr) (rest : List Instr),
    step { s with pending := c :: rest } = exec c { s with pending := rest } ∧
    step { s with pending := [] } = .next { s with pending := [] }

/-- What reset leaves, the state whole: the power-on values of R1, R32, R58, R65, R82, R105, R119, R139, R158, R161, R164,
R174 and R184, with TRIP held asserted while there is no supply (note of section 11.4), and ATTN and every heater output
released (R44, R188). What the spec gives no value before the start sequence is the model's choice (log 1): the own number,
the configuration, the ceiling and the effective budget, the epoch, the window offset 0, the input levels, and the released
state of the outputs other than TRIP without supply, the monitor's run of an output that is off among it. The marks of a
pass and of a first T_cure are the model's own (log 24), the count of quiet samples is log 9, and the waiting commands are
the model's own (log 2). -/
def Obligations.ResetLeavesPowerOnValues : Prop :=
  State.reset = {
    pending := [], power := .off, own := 0, cfg := badConfig, cfgBus := []
    lines := {
      closedIn := false, openedIn := false, holdIn := false, closeCmd := false, openCmd := false, liftCall := false
      tripOut := true }
    cycle := {
      st := .idle, closeTimer := none, openTimer := none, doseTimer := none, holdTimer := none, lineHold := .free
      blocker := .clear, deferred := false, recovery := false, passed := none, serial := 0, dReq := 0, dose := 0
      dOver := 0, elapsed := 0, tLow := 0, tHigh := 0, tSeen := false, curtailed := 0, holdSecs := 0, liftWait := 0
      reasons := ⟨false, false, false, false, false, false⟩ }
    zu := {
      table := Vector.replicate 8 {
        state := .off, temp := 0, valid := false, loss := none, overLimit := false, integ := 0, d := 0, duty := 0
        offset := 0, pos := .idle, opens := 0, lockout := false, inBand := false, runOn := false, runLen := 0
        stuckSent := false, onStep := false, seen := false, quiet := 0, entered := false }
      control := none, allInBand := false, soakCount := 0, soakTimer := none, ready := false }
    weigh := {
      link := .inactive, lossTimer := none, latest := 0, window := [], tare := 0, build := ⟨.empty, 0, [], false⟩
      staged := none, press := none, recipe := 0 }
    share := {
      claim := 0, ceiling := 0, bEff := 0, mismatch := false, raising := none, starved := false, starveTimer := none
      starvedCond := false, load := 0, want := 0, curtailed := false, listen := none, shareTimer := none }
    peers := Vector.replicate 16 {
      presence := .absent, age := none, held := false, claim := 0, bound := none, ceiling := 0, budget := 0
      starved := false, mode := .cold, cycle := .idle, pos := .away, conflicts := 0 }
    lift := { view := [], headTimer := none, overdue := false, ownAsk := 0, outstanding := none, reAsk := none }
    hist := {
      stored := [], reserved := none, predecessorLost := false, next := some 1, epoch := 0, reply := none
      piece := none }
    line := { queue := [], idle := true, lastSender := 15, errors := 0 }
    ml := { mode := .cold, pendingMode := none, wakeTimer := none }
    attn := { raw := 0#16, configCond := false } } ∧
  State.reset.hist.free = 64 ∧ State.reset.attnOut = false ∧ (∀ z, State.reset.zoneOut z = false) ∧
  emptyBuild = ⟨.empty, 0, [], false⟩ ∧ noReasons = ⟨false, false, false, false, false, false⟩ ∧
  absentPeer = {
    presence := .absent, age := none, held := false, claim := 0, bound := none, ceiling := 0, budget := 0
    starved := false, mode := .cold, cycle := .idle, pos := .away, conflicts := 0 }

/-- Every invariant of the statements below holds at reset. -/
def Obligations.ResetKeepsEveryInvariant : Prop :=
  State.reset.QueueKept ∧ State.reset.ClaimKept ∧ State.reset.DutyKept ∧ State.reset.ZonesKept ∧
  State.reset.ReadyKept ∧ State.reset.ChargeKept ∧ State.reset.WeighKept ∧ State.reset.CycleKept ∧
  State.reset.HistKept ∧ State.reset.LiftKept ∧ State.reset.PeersKept ∧ State.reset.FlagsKept ∧
  State.reset.RaiseKept

/-! ### Invariants that every step keeps -/

/-- The transmit queue keeps its limits, and the reply buffer its piece (R151, R152, R162, R164, R166, R167). -/
def Obligations.QueueLimitsAreKept : Prop :=
  ∀ (s t : State), s.QueueKept → step s = .next t → t.QueueKept

/-- The claim never exceeds the ceiling, nor what the effective budget leaves beside the claims counted for the peers, and
is 0 in COLD, in TRIPPED and in the listen period (R82, R84, R90, R93, R98, R103). A pending raise keeps its RAISE in the
queue: the one that waits, where a RAISE waits, and else the one in flight, is that of the claim asked for (R89 to R92, R163,
R166), on which log 23 rests; that the echo of an older RAISE leaves it pending is that log's reading. The premises
`CycleKept` and `QueueKept` are the invariants of `PressFollowsTheCycle` and `QueueLimitsAreKept`. -/
def Obligations.ClaimStaysWithinBudget : Prop :=
  ∀ (s t : State), s.CycleKept → s.ClaimKept → step s = .next t →
    t.ClaimKept ∧ (s.QueueKept → s.RaiseKept → t.RaiseKept)

/-- The heater power commanded never exceeds the claim (R87), and demands and integrators stay in range (R41, R42). -/
def Obligations.DutiesStayWithinClaim : Prop :=
  ∀ (s t : State), s.DutyKept → step s = .next t → t.DutyKept

/-- Zones are OFF in COLD and TRIPPED and where not enabled, an ACTIVE zone has a valid reading, and the windows keep the
positions of R43 (R32, R35, R43, R49, R52). That a zone locked out in COLD stays OFF is the model's reading (log 10), and so
is the position between the end of a window and its first step (log 7). -/
def Obligations.ZonesObeyTheMode : Prop :=
  ∀ (s t : State), s.ZonesKept → step s = .next t → t.ZonesKept

/-- The in-band flags, the all-in-band condition, the soak and the readiness of the cycle follow the readings; a condition
that has become true starts the soak from 0, or makes the station ready at once with a soak time of 0, and one that stands
leaves the soak and the readiness to the soak timer (R3, R54, R55, R56). -/
def Obligations.ReadinessFollowsReadings : Prop :=
  ∀ (s t : State), s.ReadyKept → step s = .next t → t.ReadyKept ∧
    (s.zu.allInBand = false → t.zu.allInBand = true →
      t.zu.soakCount = 0 ∧ t.zu.ready = decide (t.cfg.soak = 0) ∧ (t.zu.ready = false → t.zu.soakTimer = some 1000)) ∧
    (s.zu.allInBand = true → t.zu.allInBand = true → s.pending.head? ≠ some .soakTimer →
      t.zu.soakCount = s.zu.soakCount ∧ t.zu.soakTimer = s.zu.soakTimer ∧ t.zu.ready = s.zu.ready)

/-- Every build is the sum of its plies, an overflow mark stands in OVER alone, and every charge off the scale is one its
recipe accepts (R65, R70, R73). -/
def Obligations.ChargesMatchTheirRecipes : Prop :=
  ∀ (s t : State), s.ChargeKept → step s = .next t → t.ChargeKept

/-- Weighing runs exactly outside COLD, and masses and window stay in range (R58, R59, R61, R62, R63, R100). -/
def Obligations.WeighingFollowsTheMode : Prop :=
  ∀ (s t : State), s.WeighKept → step s = .next t → t.WeighKept

/-- PRESS, the RESERVED record, the press lines, the cycle timers, the pending mode and TRIP follow the cycle state and the
mode (R1, R2, R5, R10, R18, R19, R174, R178, section 1.1); the wake timer runs in COLD alone, and not before the start
sequence has ended. -/
def Obligations.PressFollowsTheCycle : Prop :=
  ∀ (s t : State), s.CycleKept → step s = .next t → t.CycleKept

/-- The serials of all records increase, and the slots add up to 64 (R139, R141, R143). The store as a list of records is the
model's choice (log 20), and `CycleKept` is the invariant of `PressFollowsTheCycle`. -/
def Obligations.SerialsIncrease : Prop :=
  ∀ (s t : State), s.CycleKept → s.HistKept → step s = .next t → t.HistKept

/-- The lift view holds at most one entry per station, and no timer runs without a head (R120, R125, R126). -/
def Obligations.LiftViewHoldsOneEntryPerStation : Prop :=
  ∀ (s t : State), s.LiftKept → step s = .next t → t.LiftKept

/-- The peer entries keep their fields as their presence gives them (R105, R107, R112, R115). -/
def Obligations.PeerEntriesFollowPresence : Prop :=
  ∀ (s t : State), s.PeersKept → step s = .next t → t.PeersKept

/-- The flag of a level kind stands as long as its condition holds (R184, R187). -/
def Obligations.LevelFlagsStand : Prop :=
  ∀ (s t : State), s.FlagsKept → step s = .next t → t.FlagsKept

/-! ### Frames on the line (R157, R158, R168, R196, R197) -/

/-- The frame of every message a BC6 sends is read back as that message, with every field at every value its bytes admit:
encoding and decoding agree. Its bytes are those of R196, written out: SRC and LEN, DST, KIND, the payload of its kind, and
the CRC over all before it, each bit entering the register as R196 states; and the codes are those of R197. -/
def Obligations.SentFramesReadBack : Prop :=
  (∀ (src : Station) (m : Msg), m.sized → decodeFrame (m.frame src) = some (m.heardAs src)) ∧
  (∀ (src : Station) (m : Msg) (dst kind : Byte) (payload body : List Byte),
    (dst, kind, payload) = frameContent m →
    body = [BitVec.ofNat 8 (16 * src.val + payload.length), dst, kind] ++ payload →
    m.frame src = body ++ [BitVec.ofNat 8 ((crc16 body).toNat / 256), BitVec.ofNat 8 (crc16 body).toNat]) ∧
  (∀ bytes : List Byte, crc16 bytes =
    (bytes.flatMap fun b => [b.getLsbD 7, b.getLsbD 6, b.getLsbD 5, b.getLsbD 4, b.getLsbD 3, b.getLsbD 2, b.getLsbD 1,
      b.getLsbD 0]).foldl (fun (r : BitVec 16) bit => if r.getLsbD 15 = bit then r <<< 1 else (r <<< 1) ^^^ 0x1021#16) 0xFFFF#16) ∧
  [Mode.cold, .standby, .run, .tripped].map modeCode = [0, 1, 2, 3] ∧
  [CycleState.idle, .warming, .loading, .closing, .cure, .liftWait, .opening, .demould, .faulted].map cycleCode =
    [0, 1, 2, 3, 4, 5, 6, 7, 8] ∧
  [Result.good, .suspect, .reject, .aborted].map resultCode = [0, 1, 2, 3] ∧
  [Blocker.clear, .notReady, .noCharge, .hold, .historyFull].map blockerCode = [0, 1, 2, 3, 4] ∧
  [BuildState.empty, .building, .accepted, .overfull, .disturbed, .waitingStage].map buildCode = [0, 1, 2, 3, 4, 5] ∧
  [Verdict.taken, .refusedBusy, .refusedRange, .refusedMode, .refusedCause].map verdictCode = [0, 1, 2, 3, 4] ∧
  [NoneReason.emptyStore, .unknown, .inCycle].map noneReasonCode = [0, 1, 2] ∧
  [TripCause.overtemp, .stuck].map causeCode = [0, 1] ∧
  [Kind.zoneFault, .overheat, .budgetMismatch, .chargeDiscarded, .buildDisturbed, .weighFault, .pressTimeout, .undercure,
    .overcure, .liftLate, .lineErrors, .stationConflict, .tripped, .starved, .history, .config].map kindCode =
    List.range 16

/-! ### The transmit queue as an operation (R164 to R167) -/

/-- Queueing a message. Its class is that of its kind (R164), and SHARE coalesces with SHARE and RAISE with RAISE (R166).
Class 3: appended while the queue holds fewer than 5 class 3 entries and fewer than 12 in all, and lost without trace
otherwise, an ALERT as any other (the model's reading, log 38). Classes 0 to 2: a SHARE or RAISE that finds a waiting entry
of its kind takes that entry's place, and every other entry stays (R166); any other is appended while there is room; in a
full queue the youngest class 3 entry not in flight leaves, the others stay in order, and the new one stands last, a
displaced piece leaving as one finally dropped (R152, R167); with none to displace the message is dropped and its owner
told: a RAISE is abandoned (R91), an ASK taken up again later (R129, log 32), and anything else lost, a DROP too, which is
the model's choice (log 12). -/
def Obligations.QueueAdmission : Prop :=
  ∀ (s : State) (m : Msg),
    m.cls = (match m with
      | .trip .. => 0
      | .ask _ | .done .. | .drop .. => 1
      | .share .. | .raise _ | .leave => 2
      | .part .. | .hdata .. | .hnone .. | .hbusy _ | .report .. | .alert _ | .answer .. => 3) ∧
    (∀ n : Msg, m.coalesces n = (match m, n with
      | .share .., .share .. => true
      | .raise _, .raise _ => true
      | _, _ => false)) ∧
    (m.cls = 3 → class3Count s.line.queue < 5 → s.line.queue.length < 12 →
      s.enqueue m = { s with line := { s.line with queue := s.line.queue ++ [newEntry m] } }) ∧
    (m.cls = 3 → 5 ≤ class3Count s.line.queue ∨ 12 ≤ s.line.queue.length → s.enqueue m = s) ∧
    (m.cls < 3 → (∃ e ∈ s.line.queue, e.inFlight = false ∧ e.msg.coalesces m = true) →
      ∃ before e after, s.line.queue = before ++ e :: after ∧ e.inFlight = false ∧ e.msg.coalesces m = true ∧
        (∀ x ∈ before, x.inFlight = false → x.msg.coalesces m = false) ∧
        s.enqueue m = { s with line := { s.line with queue := before ++ newEntry m :: after } }) ∧
    (m.cls < 3 → (∀ e ∈ s.line.queue, e.inFlight = false → e.msg.coalesces m = false) →
      s.line.queue.length < 12 →
      s.enqueue m = { s with line := { s.line with queue := s.line.queue ++ [newEntry m] } }) ∧
    (m.cls < 3 → (∀ e ∈ s.line.queue, e.inFlight = false → e.msg.coalesces m = false) →
      s.line.queue.length = 12 → (∃ e ∈ s.line.queue, e.inFlight = false ∧ e.msg.cls = 3) →
      ∃ before e after, s.line.queue = before ++ e :: after ∧ e.inFlight = false ∧ e.msg.cls = 3 ∧
        (∀ x ∈ after, x.msg.cls = 3 → x.inFlight = true) ∧
        s.enqueue m = { s with
          line := { s.line with queue := before ++ after ++ [newEntry m] }
          hist := if e.msg.isHdata then
            { s.hist with piece := none, reply := s.hist.reply.filter fun r => decide (r.next < r.count) } else s.hist }) ∧
    (m.cls < 3 → (∀ e ∈ s.line.queue, e.inFlight = false → e.msg.coalesces m = false) →
      12 ≤ s.line.queue.length → (∀ e ∈ s.line.queue, e.msg.cls = 3 → e.inFlight = true) →
      (m.isRaise = true → s.enqueue m = { s with share := { s.share with raising := none } }) ∧
      (∀ n : Byte, m = .ask n → s.enqueue m = { s with lift := { s.lift with
        reAsk := some n, outstanding := if s.lift.outstanding = some n then none else s.lift.outstanding } }) ∧
      (m.isRaise = false → (∀ n : Byte, m ≠ .ask n) → s.enqueue m = s))

/-- Raising a kind sets its raw flag and no other; ALERT is queued exactly where the kind is enabled and a class 3 message
finds room, and an ALERT that finds none is lost, with every entry of the queue where it was (R185, R167, log 38). Nothing
else changes. ATTN is asserted exactly while a kind has its flag and its enable set (R186). -/
def Obligations.RaiseSetsFlagAndAlerts : Prop :=
  ∀ (s : State) (k j : Kind),
    s.flag k = s.attn.raw.getLsbD (kindCode k) ∧ s.enabled k = s.cfg.enables.getLsbD (kindCode k) ∧
    (s.attnOut = true ↔ ∃ i : Kind, s.flag i = true ∧ s.enabled i = true) ∧
    (s.raiseKind k).flag k = true ∧ (j ≠ k → (s.raiseKind k).flag j = s.flag j) ∧
    (s.raiseKind k).attn = { s.attn with raw := (s.raiseKind k).attn.raw } ∧
    (s.enabled k = false → s.raiseKind k = { s with attn := (s.raiseKind k).attn }) ∧
    (s.enabled k = true → class3Count s.line.queue < 5 → s.line.queue.length < 12 →
      s.raiseKind k = { s with
        attn := (s.raiseKind k).attn, line := { s.line with queue := s.line.queue ++ [newEntry (.alert k)] } }) ∧
    (s.enabled k = true → 5 ≤ class3Count s.line.queue ∨ 12 ≤ s.line.queue.length →
      s.raiseKind k = { s with attn := (s.raiseKind k).attn }) ∧
    ((s.raiseKind k).attnOut = true ↔ s.attnOut = true ∨ s.enabled k = true)

/-! ### Supply and start (R140, R161, R191 to R195) -/

/-- POWER_ON. With a good block: the straps, the fields as taken, the ceiling, the budget and the advanced epoch are in
force, TRIP is released, the epoch and the block's new CRC are written back, and CONFIG is raised once for a field out of
range and once for a failed write-back. With a bad block: the station runs by R193, CONFIG is raised, and nothing is written
back. The memory at bus address 0x50 is read from byte 0 over the 233 bytes of the block, and a good block's epoch is
written to bytes 68 and 69 and its CRC to bytes 231 and 232 (R140, R161, R191 to R195, R199). The block is good where its
233 bytes were read and the CRC holds; each field stands at the bytes R199 gives it and is taken as R192 states, and a field
is out of range exactly where R192 says so; the ceiling is that of R83; the write-back has failed where it was not
acknowledged or the epoch or the CRC reads back otherwise. Everything else is at its power-on value. The model's readings:
what stands there where the spec gives no value (log 1), a short read as one not acknowledged (log 4), kept pin levels and
waiting commands (log 5), a POWER_ON in a powered part as a fresh start (log 31), and the order and the division of the
write-back and its read-back (log 36). -/
def Obligations.PowerOnTakesTheBlock : Prop :=
  ∀ (s : State) (straps : Station) (read : List Byte) (wb : WriteBack),
    (blockGood read = true →
      ∃ t, exec (.powerOn straps read wb) s = .next t ∧
        t.power = .starting ∧ t.own = straps ∧ t.cfg = takenConfig read ∧ t.lines.tripOut = false ∧
        t.hist.epoch = storedEpoch read + 1 ∧
        t.cfgBus = [.read 0x50#7 0#16 233, .write 0x50#7 68#16 (beBytes 2 (storedEpoch read + 1).toNat),
          .write 0x50#7 231#16 (beBytes 2
            (crc16 (read.take 68 ++ beBytes 2 (storedEpoch read + 1).toNat ++ (read.take 231).drop 70)).toNat),
          .read 0x50#7 68#16 2, .read 0x50#7 231#16 2] ∧
        t.share.ceiling = ceilingOf (takenConfig read) ∧ t.share.bEff = (takenConfig read).budget ∧
        t.attn.configCond = (blockOutOfRange read || writeBackFailed read wb) ∧
        t.attn.raw = (if blockOutOfRange read || writeBackFailed read wb then kindBit .config else 0#16) ∧
        t.line.queue = List.replicate
          (if (takenConfig read).enables.getLsbD 15 then
            (if blockOutOfRange read then 1 else 0) + (if writeBackFailed read wb then 1 else 0) else 0)
          (newEntry (.alert .config)) ∧
        t = { State.reset with
          pending := s.pending, power := t.power, own := t.own, cfg := t.cfg, cfgBus := t.cfgBus, attn := t.attn
          lines := { State.reset.lines with
            closedIn := s.lines.closedIn, openedIn := s.lines.openedIn, holdIn := s.lines.holdIn, tripOut := false }
          share := { State.reset.share with ceiling := t.share.ceiling, bEff := t.share.bEff }
          hist := { State.reset.hist with epoch := t.hist.epoch }
          line := { State.reset.line with queue := t.line.queue } }) ∧
    (blockGood read = false →
      exec (.powerOn straps read wb) s = .next { State.reset with
        pending := s.pending, power := .starting, own := straps, cfg := badConfig, cfgBus := [.read 0x50#7 0#16 233]
        lines := { State.reset.lines with
          closedIn := s.lines.closedIn, openedIn := s.lines.openedIn, holdIn := s.lines.holdIn, tripOut := false }
        attn := { raw := 0x8000#16, configCond := true }
        line := { State.reset.line with queue := [newEntry (.alert .config)] } } ∧
      ceilingOf badConfig = 0 ∧ badConfig = {
        good := false, bitRate := 125, budget := 0
        zones := Vector.replicate 8 { enabled := false, power := 100, kp := 0, ki := 0 }
        margin := 10, tAbs := 500, escalation := 1, standbySp := 0, band := 1, soak := 0, scaleZero := -8388608
        scaleK := 1, stableBand := 1, zeroBand := 0, plyMatch := 0, plyMin := 1, liftUsed := false, tHold := 10
        historyMode := .strict, enables := 0xFFFF#16, wakeMinutes := 0, wakeMode := .standby, startMode := .cold
        recipeCount := 1
        recipes := Vector.replicate 8 {
          cureSp := 500, tRef := 500, dBase := 1, tMin := 0, tMax := 1, dOverMax := 0, mTgt := 1, tolPm := 1
          plyMinCount := 1, plyMaxCount := 1, closeTimeout := 1, openTimeout := 1 } }) ∧
    (writeBackFailed read wb = true ↔ wb.ack = false ∨ wb.epoch ≠ storedEpoch read + 1 ∨
      wb.crc ≠ crc16 (read.take 68 ++ beBytes 2 (storedEpoch read + 1).toNat ++ (read.take 231).drop 70)) ∧
    (blockGood read = true ↔ 233 ≤ read.length ∧ twoAt read 231 = (crc16 (read.take 231)).toNat) ∧
    (233 ≤ read.length → (storedEpoch read).toNat = twoAt read 68 ∧ FieldsTaken read (takenConfig read) ∧
      (blockOutOfRange read = false ↔ FieldsInRange read)) ∧
    ∀ c : Config, ceilingOf c =
      ((zoneIds.map fun z => if c.zones[z].enabled then c.zones[z].power else 0).sum + 99) / 100

/-- SUPPLY_LOSS: TRIP is held asserted, every output is off, and nothing of the state is kept (R155, R195, note of section
11.4) but the waiting commands and the levels of the input pins, which is the model's reading (log 5), with what stands
there where the spec gives no value (log 1). -/
def Obligations.SupplyLossHoldsTrip : Prop :=
  ∀ (s : State),
    ∃ t, exec .supplyLoss s = .next t ∧ t.lines.tripOut = true ∧ (∀ z, t.zoneOut z = false) ∧
      t = { State.reset with pending := s.pending, lines := { State.reset.lines with
        closedIn := s.lines.closedIn, openedIn := s.lines.openedIn, holdIn := s.lines.holdIn } }

/-- START_SEQUENCE_END: the listen timer starts, and the start mode is taken as a mode entry (R102, R174, R195). A first
entry to STANDBY or RUN starts zone control with its offsets, its lead-ins and its first control tick (R33, R40, R43), last
in the entry by the model's choice (log 11). -/
def Obligations.StartSequenceEntersStartMode : Prop :=
  ∀ (s : State), s.power = .starting → s.mode = .cold →
    (s.cfg.startMode = .cold → ∃ t, exec .startSequenceEnd s = .next t ∧ t.power = .running ∧
      ColdEntry { s with power := .running, share := { s.share with listen := some 3000 } } t ∧
      t.share.listen = some 3000 ∧ t.peers = s.peers ∧ t.hist.stored = s.hist.stored ∧ t.cfg = s.cfg) ∧
    (s.cfg.startMode = .standby ∨ s.cfg.startMode = .run → s.cycle.st = .idle →
      ∃ t, exec .startSequenceEnd s = .next t ∧ t.power = .running ∧
      HotEntry s.cfg.startMode { s with power := .running, share := { s.share with listen := some 3000 } } t ∧
      t.share.listen = some 3000 ∧ t.share.claim ≤ s.share.claim ∧ t.peers = s.peers ∧
      t.hist.stored = s.hist.stored ∧ t.cfg = s.cfg ∧
      (s.zoneControl = false → ∀ z, (t.zone z).offset = (25 * z.val + 12 * s.own.val) % 200))

/-! ### The press cycle (R4 to R31) -/

/-- T_cure is the lowest reading of the counting zones, and is given exactly where each platen has one (R22, R57). Its dose
increment is that of R23, with its table written out: 0 more than 40.0 degC below the reference, as at 40.0 degC above it
beyond that, and doubling for every 10.0 degC between; it never falls as the temperature rises. -/
def Obligations.CureTempGivesTheIncrement : Prop :=
  ∀ (s : State) (tCure tRef : Int),
    (s.cureTemp = none ↔ (∀ z : ZoneId, z.val < 4 → ¬((s.zone z).valid = true ∧
        ((s.zone z).state = .active ∨ (s.zone z).state = .overheat))) ∨
      (∀ z : ZoneId, 4 ≤ z.val → ¬((s.zone z).valid = true ∧
        ((s.zone z).state = .active ∨ (s.zone z).state = .overheat)))) ∧
    (∀ t ∈ s.cureTemp,
      (∃ z, (s.zone z).temp = t ∧ (s.zone z).valid = true ∧
        ((s.zone z).state = .active ∨ (s.zone z).state = .overheat)) ∧
      ∀ z, (s.zone z).valid = true → (s.zone z).state = .active ∨ (s.zone z).state = .overheat → t ≤ (s.zone z).temp) ∧
    (tCure - tRef < -400 → doseIncrement tCure tRef = 0) ∧
    (400 < tCure - tRef → doseIncrement tCure tRef = 16000) ∧
    (∀ q j r : Nat, q ≤ 4 → j ≤ 9 → r ≤ 9 →
      (tCure - tRef = 100 * q + 10 * j + r → tCure - tRef ≤ 400 → doseIncrement tCure tRef =
        [1000, 1072, 1149, 1231, 1320, 1414, 1516, 1625, 1741, 1866].getD j 0 * 2 ^ q) ∧
      (tCure - tRef = 10 * j + r - 100 * q → 1 ≤ q → doseIncrement tCure tRef =
        [1000, 1072, 1149, 1231, 1320, 1414, 1516, 1625, 1741, 1866].getD j 0 / 2 ^ q)) ∧
    doseIncrement tCure tRef ≤ doseIncrement (tCure + 1) tRef ∧ doseIncrement tCure tRef ≤ 16000

/-- The required dose of an accepted charge, for every recipe in its ranges: the exact product divided and rounded down, and
within 900 to 72 088 500 milli-units (R25). -/
def Obligations.RequiredDoseWithinBounds : Prop :=
  ∀ (r : Recipe) (c : Charge), 1 ≤ r.dBase → r.dBase ≤ 65535 → 1 ≤ r.mTgt → r.tolPm ≤ 100 →
    accepts r c.total c.plies →
    requiredDose r c.total.toNat * r.mTgt ≤ r.dBase * 1000 * c.total.toNat ∧
    r.dBase * 1000 * c.total.toNat < (requiredDose r c.total.toNat + 1) * r.mTgt ∧
    900 ≤ requiredDose r c.total.toNat ∧ requiredDose r c.total.toNat ≤ 72088500

/-- A close request outside WARMING and LOADING does nothing; in them the first failing condition of R4 becomes the blocker,
a hold of either strength being one (R14, R15), and nothing else changes. -/
def Obligations.CloseRequestIsBlocked : Prop :=
  ∀ (s : State), s.power = .running →
    (s.cycle.st ≠ .warming → s.cycle.st ≠ .loading → exec .closeReq s = .next s) ∧
    (s.cycle.st = .warming ∨ s.cycle.st = .loading →
      (s.zu.ready = false → exec .closeReq s = .next { s with cycle := { s.cycle with blocker := .notReady } }) ∧
      (s.zu.ready = true → s.weigh.staged = none →
        exec .closeReq s = .next { s with cycle := { s.cycle with blocker := .noCharge } }) ∧
      (s.zu.ready = true → s.weigh.staged.isSome = true →
        s.lines.holdIn = true ∨ s.cycle.lineHold = .soft ∨ s.cycle.lineHold = .hard →
        exec .closeReq s = .next { s with cycle := { s.cycle with blocker := .hold } }) ∧
      (s.zu.ready = true → s.weigh.staged.isSome = true → s.lines.holdIn = false → s.cycle.lineHold = .free →
        s.hist.next = none ∨ (s.cfg.historyMode = .strict ∧ s.hist.free = 0) →
        exec .closeReq s = .next { s with cycle := { s.cycle with blocker := .historyFull } }))

/-- A close taken (R5): STAGED goes to PRESS and a charge in WAITING_STAGE to STAGED; a slot is reserved under the next
serial, in a full lenient store that of the lowest serial, with PREDECESSOR_LOST (R143); the last free slot raises
HISTORY (R144); the figures are zero, the reasons clear and D_req computed; the lines and timers stand for CLOSING, or
for CURE where CLOSED is asserted (R6). -/
def Obligations.CloseIsTaken : Prop :=
  ∀ (s : State) (c : Charge) (n : Nat), s.power = .running → s.cycle.st = .warming ∨ s.cycle.st = .loading →
    s.zu.ready = true → s.weigh.staged = some c → s.lines.holdIn = false → s.cycle.lineHold = .free →
    s.hist.next = some n → 0 < s.hist.free ∨ s.cfg.historyMode = .lenient →
    ∃ t, exec .closeReq s = .next t ∧
      t.cycle.st = (if s.lines.closedIn then .cure else .closing) ∧
      t.weigh = { s.weigh with
        press := some c
        staged := if s.weigh.build.state = .waitingStage then
          some ⟨s.weigh.build.total, s.weigh.build.plies, s.weigh.recipe⟩ else none
        build := if s.weigh.build.state = .waitingStage then emptyBuild else s.weigh.build } ∧
      t.hist.reserved = some n ∧ t.cycle.serial = n ∧
      t.hist.next = (if n = 4294967295 then none else some (n + 1)) ∧
      t.hist.predecessorLost = decide (s.hist.free = 0) ∧
      (0 < s.hist.free → t.hist.stored = s.hist.stored) ∧
      (s.hist.free = 0 → ∃ r ∈ s.hist.stored, (∀ q ∈ s.hist.stored, r.serial ≤ q.serial) ∧
        t.hist.stored = s.hist.stored.erase r) ∧
      t.hist = { s.hist with
        stored := t.hist.stored, reserved := some n, next := t.hist.next, predecessorLost := t.hist.predecessorLost
        reply := t.hist.reply, piece := t.hist.piece } ∧
      Raised (if t.hist.free = 0 then [.history] else []) s t ∧
      t.cycle = { s.cycle with
        st := t.cycle.st, serial := n, blocker := .clear, deferred := false, recovery := false
        dReq := s.recipe.dBase * 1000 * c.total.toNat / s.recipe.mTgt
        dose := 0, dOver := 0, elapsed := 0, tLow := 0, tHigh := 0, tSeen := false, curtailed := 0, holdSecs := 0
        liftWait := 0, reasons := { noReasons with curePresent := s.lines.closedIn }
        closeTimer := if s.lines.closedIn then none else some (s.recipe.closeTimeout * 1000)
        holdTimer := some 1000
        doseTimer := if s.lines.closedIn then some 1000 else s.cycle.doseTimer } ∧
      t = { s with
        weigh := t.weigh, hist := t.hist, attn := t.attn, line := { s.line with queue := t.line.queue }, cycle := t.cycle
        lines := { s.lines with closeCmd := true, openCmd := false } } ∧
      (s.mode ≠ .cold → s.room 2 → t.ShareWaits)

/-- The press inputs (R6, R10, R12): a rise of CLOSED in CLOSING enters CURE, and outside the press sequence with CLOSE_CMD
released starts a recovery opening unless OPENED is asserted; a rise of OPENED in OPENING enters DEMOULD, and otherwise
ends a recovery opening; in every other case, and at every fall, the level of the pin alone changes. A change of the cycle
state queues SHARE (R99). That they act in the
start sequence is the model's reading (log 6), and so is that without supply the level alone changes (log 5). -/
def Obligations.PressInputsAct : Prop :=
  ∀ (s : State),
    exec .closedFall s = .next { s with lines := { s.lines with closedIn := false } } ∧
    exec .openedFall s = .next { s with lines := { s.lines with openedIn := false } } ∧
    (s.power ≠ .off → s.cycle.st = .closing → ∃ t, exec .closedRise s = .next t ∧
      t.cycle = { s.cycle with
        st := .cure, closeTimer := none, doseTimer := some 1000, elapsed := 0, dose := 0
        reasons := { s.cycle.reasons with curePresent := true } } ∧
      t = { s with
        cycle := t.cycle, lines := { s.lines with closedIn := true }
        line := { s.line with queue := t.line.queue }
        hist := { s.hist with reply := t.hist.reply, piece := t.hist.piece } } ∧
      (s.mode ≠ .cold → s.line.queue.length < 12 → t.ShareWaits)) ∧
    (s.power ≠ .off → s.cycle.st.inSequence = false → s.lines.closeCmd = false → s.lines.openedIn = false →
      exec .closedRise s = .next { s with
        lines := { s.lines with closedIn := true, openCmd := true }, cycle := { s.cycle with recovery := true } }) ∧
    (s.power = .off ∨ (s.cycle.st.inSequence = false ∧ (s.lines.closeCmd = true ∨ s.lines.openedIn = true)) ∨
        s.cycle.st = .cure ∨ s.cycle.st = .liftWait ∨ s.cycle.st = .opening ∨ s.cycle.st = .demould →
      exec .closedRise s = .next { s with lines := { s.lines with closedIn := true } }) ∧
    (s.power ≠ .off → s.cycle.st = .opening → ∃ t, exec .openedRise s = .next t ∧
      t.cycle = { s.cycle with st := .demould, openTimer := none, doseTimer := none } ∧
      t = { s with
        cycle := t.cycle, lines := { s.lines with openedIn := true, liftCall := s.cfg.liftUsed }
        line := { s.line with queue := t.line.queue }
        hist := { s.hist with reply := t.hist.reply, piece := t.hist.piece } } ∧
      (s.mode ≠ .cold → s.line.queue.length < 12 → t.ShareWaits)) ∧
    (s.power ≠ .off → s.cycle.st ≠ .opening → s.cycle.recovery = true →
      exec .openedRise s = .next { s with
        lines := { s.lines with openedIn := true, openCmd := false }, cycle := { s.cycle with recovery := false } }) ∧
    (s.power = .off ∨ (s.cycle.st ≠ .opening ∧ s.cycle.recovery = false) →
      exec .openedRise s = .next { s with lines := { s.lines with openedIn := true } })

/-- One dose tick (R7, R8, R22 to R27): the figures after it, OVERCURE where D_over passes its limit, and at the completing
tick UNDERCURE where the dose is short, then the ask or its deferral and LIFT_WAIT, or OPENING with the open timer where the
lift is not used, which OPENED ends at once in DEMOULD (R10); every other field of the cycle stays;
without the dose tick timer, and outside CURE, LIFT_WAIT and OPENING, nothing, which is the model's reading (log 3). The mark
that a tick has given a T_cure is the model's own (log 24). -/
def Obligations.DoseTickActs : Prop :=
  ∀ (s : State),
    (s.cycle.doseTimer = none ∨ (s.cycle.st ≠ .cure ∧ s.cycle.st ≠ .liftWait ∧ s.cycle.st ≠ .opening) →
      exec .doseTick s = .next s) ∧
    ∀ (inc dOver : Nat) (complete : Bool), s.cycle.doseTimer.isSome = true →
      s.cycle.st = .cure ∨ s.cycle.st = .liftWait ∨ s.cycle.st = .opening →
      inc = (match s.cureTemp with | some t => doseIncrement t s.recipe.tRef | none => 0) →
      dOver = (if s.cycle.st = .cure then s.cycle.dOver else min 4294967295 (s.cycle.dOver + inc)) →
      complete = (decide (s.cycle.st = .cure) && (decide (s.recipe.tMax ≤ s.cycle.elapsed + 1) ||
        (decide (s.cycle.dReq ≤ min 4294967295 (s.cycle.dose + inc)) &&
          decide (s.recipe.tMin ≤ s.cycle.elapsed + 1)))) →
      ∃ t, exec .doseTick s = .next t ∧ ∀ f : Cycle,
        f = { s.cycle with
          dose := t.cycle.dose, elapsed := t.cycle.elapsed, dOver := t.cycle.dOver, tLow := t.cycle.tLow
          tHigh := t.cycle.tHigh, tSeen := t.cycle.tSeen, curtailed := t.cycle.curtailed
          liftWait := t.cycle.liftWait, reasons := t.cycle.reasons } →
        t.cycle.dose = min 4294967295 (s.cycle.dose + inc) ∧ t.cycle.elapsed = s.cycle.elapsed + 1 ∧
        t.cycle.dOver = dOver ∧
        (∀ x ∈ s.cureTemp, t.cycle.tSeen = true ∧
          t.cycle.tLow = (if s.cycle.tSeen then min s.cycle.tLow x else x) ∧
          t.cycle.tHigh = (if s.cycle.tSeen then max s.cycle.tHigh x else x)) ∧
        (s.cureTemp = none →
          t.cycle.tSeen = s.cycle.tSeen ∧ t.cycle.tLow = s.cycle.tLow ∧ t.cycle.tHigh = s.cycle.tHigh) ∧
        t.cycle.curtailed = s.cycle.curtailed + (if s.share.curtailed then 1 else 0) ∧
        t.cycle.liftWait = s.cycle.liftWait + (if s.cycle.st = .liftWait then 1 else 0) ∧
        t.cycle.reasons = { s.cycle.reasons with
          zoneLost := s.cycle.reasons.zoneLost || s.cureTemp.isNone
          overcure := s.cycle.reasons.overcure || decide (s.recipe.dOverMax * 1000 < dOver)
          undercure := s.cycle.reasons.undercure || (complete && decide (t.cycle.dose < s.cycle.dReq)) } ∧
        Raised ((if t.cycle.reasons.overcure = true ∧ s.cycle.reasons.overcure = false then [.overcure] else []) ++
          (if complete = true ∧ t.cycle.dose < s.cycle.dReq then [.undercure] else [])) s t ∧
        (complete = false → t.cycle = { f with st := s.cycle.st } ∧ t.lift = s.lift ∧ t.lines = s.lines) ∧
        (complete = true → s.mode ≠ .cold → s.room 4 → t.ShareWaits) ∧
        (complete = true → s.cfg.liftUsed = true →
          t.cycle = { f with st := .liftWait, deferred := decide (s.hold = .hard) } ∧ t.lines = s.lines ∧
          (s.hold = .hard → t.lift = s.lift) ∧
          (s.hold ≠ .hard → AskMade s.lift t ∧
            (s.room 4 → newEntry (.ask (s.lift.ownAsk + 1#8)) ∈ t.line.queue ∧
              t.lift = { s.lift with ownAsk := s.lift.ownAsk + 1#8, outstanding := some (s.lift.ownAsk + 1#8) }))) ∧
        (complete = true → s.cfg.liftUsed = false → t.lift = s.lift ∧
          t.cycle = { f with
            st := if s.lines.openedIn then .demould else .opening, deferred := false
            openTimer := if s.lines.openedIn then none else some (s.recipe.openTimeout * 1000)
            doseTimer := if s.lines.openedIn then none else s.cycle.doseTimer } ∧
          t.lines = { s.lines with
            closeCmd := false, openCmd := true
            liftCall := if s.lines.openedIn then false else s.lines.liftCall }) ∧
        t = { s with
          cycle := t.cycle, lift := t.lift, lines := t.lines, line := { s.line with queue := t.line.queue }
          hist := { s.hist with reply := t.hist.reply, piece := t.hist.piece }, attn := t.attn }

/-- The expiry of a press timer in its state enters FAULTED with PRESS_TIMEOUT (R6, R10, R18, R29), a pending mode being
entered with the emptying of PRESS (R176), where the start of zone control comes last in that entry by the model's choice
(log 11); a withdraw stops the re-ask timer (R132), PART of the aborted record is queued (R145), and SHARE follows the cycle
state and the mode (R99). -/
def Obligations.PressTimeoutFaults : Prop :=
  ∀ (s : State) (c : Instr),
    (c = .closeTimerExpiry ∧ s.cycle.closeTimer.isSome = true ∧ s.cycle.st = .closing) ∨
      (c = .openTimerExpiry ∧ s.cycle.openTimer.isSome = true ∧ s.cycle.st = .opening) →
    ∃ t, exec c s = .next t ∧ FaultLeaves s t ∧ t.flag .pressTimeout = true ∧
      (∀ m ∈ s.ml.pendingMode, s.weigh.press.isSome = true → m ≠ .tripped → t.mode = m ∧ t.ml.pendingMode = none) ∧
      (s.weigh.press.isSome = true → s.ml.pendingMode = some .cold → t.attn.raw = t.levelFlags ||| kindBit .pressTimeout |||
        (if s.weigh.build.state ≠ .empty ∨ s.weigh.staged.isSome = true then kindBit .chargeDiscarded else 0#16)) ∧
      t.lift.reAsk = (if s.ml.pendingMode = some .cold ∧ s.weigh.press.isSome = true then none
        else if s.cfg.liftUsed = true ∧ s.withdrawable.isSome = true then none else s.lift.reAsk) ∧
      (s.ml.pendingMode = none ∨ s.weigh.press = none → Raised [.pressTimeout] s t ∧
        (s.mode ≠ .cold → s.room 4 → t.ShareWaits) ∧ t = { s with
        cycle := t.cycle, lines := t.lines, lift := { s.lift with reAsk := t.lift.reAsk }, hist := t.hist
        weigh := { s.weigh with press := none }, line := { s.line with queue := t.line.queue }, attn := t.attn }) ∧
      (∀ m ∈ s.ml.pendingMode, s.weigh.press.isSome = true → m = .standby ∨ m = .cold → ∃ u v : State,
        PartGone .aborted s u ∧
        u = { s with
          cycle := { s.cycle with
            closeTimer := none, openTimer := none, doseTimer := none, holdTimer := none, deferred := false
            recovery := t.cycle.recovery }
          lines := t.lines, lift := { s.lift with reAsk := u.lift.reAsk }, hist := u.hist
          weigh := { s.weigh with press := none }, line := { s.line with queue := u.line.queue }
          ml := { s.ml with pendingMode := none } } ∧
        (m = .cold → ColdEntry u v) ∧ (m = .standby → HotEntry .standby u v) ∧ Raised [.pressTimeout] v t ∧
        t = { v with
          cycle := { v.cycle with st := .faulted }, attn := t.attn, line := { v.line with queue := t.line.queue }
          hist := { v.hist with reply := t.hist.reply, piece := t.hist.piece } })

/-- The hold-second timer counts a second under a hold of either strength and none without one (R17); the soak timer adds a
second, and at the soak time the station is ready and a cycle in WARMING goes to LOADING (R3, R55). An expiry of a press
timer outside its state, and one of a stopped timer, does nothing, which is the model's reading (log 3). -/
def Obligations.SecondTimersCount : Prop :=
  ∀ (s : State),
    (s.cycle.closeTimer = none ∨ s.cycle.st ≠ .closing → exec .closeTimerExpiry s = .next s) ∧
    (s.cycle.openTimer = none ∨ s.cycle.st ≠ .opening → exec .openTimerExpiry s = .next s) ∧
    (s.cycle.holdTimer.isSome = true → s.lines.holdIn = true ∨ s.cycle.lineHold ≠ .free →
      exec .holdSecondTimer s = .next { s with cycle := { s.cycle with holdSecs := s.cycle.holdSecs + 1 } }) ∧
    (s.cycle.holdTimer = none ∨ (s.lines.holdIn = false ∧ s.cycle.lineHold = .free) →
      exec .holdSecondTimer s = .next s) ∧
    (s.zu.soakTimer = none → exec .soakTimer s = .next s) ∧
    (s.zu.soakTimer.isSome = true → s.zu.soakCount + 1 < s.cfg.soak →
      exec .soakTimer s = .next { s with zu := { s.zu with soakCount := s.zu.soakCount + 1 } }) ∧
    (s.zu.soakTimer.isSome = true → s.cfg.soak ≤ s.zu.soakCount + 1 → ∃ t, exec .soakTimer s = .next t ∧
      t = { s with
        zu := { s.zu with soakCount := s.zu.soakCount + 1, ready := true, soakTimer := none }
        cycle := { s.cycle with st := if s.cycle.st = .warming then .loading else s.cycle.st }
        line := { s.line with queue := t.line.queue }
        hist := { s.hist with reply := t.hist.reply, piece := t.hist.piece } } ∧
      (s.cycle.st = .warming → s.mode ≠ .cold → s.line.queue.length < 12 → t.ShareWaits) ∧
      (s.cycle.st ≠ .warming → t.line = s.line ∧ t.hist = s.hist))

/-- PART_CLEAR in DEMOULD ends the cycle (R11, R28, R30, R145): DONE, the lines released, the record STORED with its result
and PART queued, PRESS emptied, and the cycle in LOADING or WARMING by readiness, or in IDLE with the pending mode entered
(R176), where the start of zone control comes last in that entry by the model's choice (log 11), and SHARE queued (R99); in
any other state nothing (R12). That DONE carries the latest own ask's number where no own entry stands is R132, which the
model follows over R131 (log 34). -/
def Obligations.PartClearEndsCycle : Prop :=
  ∀ (s : State) (c : Charge) (n : Nat), s.power = .running →
    (s.cycle.st ≠ .demould → exec .partClear s = .next s) ∧
    (s.cycle.st = .demould → s.weigh.press = some c → s.hist.reserved = some n →
      ∃ t res, exec .partClear s = .next t ∧
        res = (if s.cycle.reasons.undercure then Result.reject
          else if s.cycle.reasons.overcure || s.cycle.reasons.liftLate || s.cycle.reasons.zoneLost then Result.suspect
          else Result.good) ∧
        PartGone res s t ∧ t.lines = { s.lines with liftCall := false, openCmd := false } ∧
        t.cycle.holdTimer = none ∧
        (s.cfg.liftUsed = true → s.line.queue.length < 12 →
          newEntry (.done ((s.ownEntry.map (·.ask)).getD s.lift.ownAsk) false) ∈ t.line.queue) ∧
        (s.ml.pendingMode = none →
          t.cycle.st = (if s.zu.ready then .loading else .warming) ∧
          t = { s with
            cycle := { s.cycle with st := t.cycle.st, holdTimer := none }, lines := t.lines, hist := t.hist
            weigh := { s.weigh with press := none }, line := { s.line with queue := t.line.queue } } ∧
          (s.room 3 → newEntry (.part s.hist.epoch n res) ∈ t.line.queue) ∧
          (s.mode ≠ .cold → s.room 3 → t.ShareWaits)) ∧
        (∀ m ∈ s.ml.pendingMode, m = .standby ∨ m = .cold → PartTold res s t ∧
          (t.mode ≠ .cold → s.line.queue.length + 6 ≤ 12 → t.ShareWaits) ∧ ∃ u v : State,
          PartGone res s u ∧
          u = { s with
            cycle := { s.cycle with holdTimer := none }, lines := t.lines, hist := u.hist
            weigh := { s.weigh with press := none }, line := { s.line with queue := u.line.queue }
            ml := { s.ml with pendingMode := none } } ∧
          (m = .cold → ColdEntry u v) ∧ (m = .standby → HotEntry .standby u v) ∧
          t = { v with
            cycle := { v.cycle with st := .idle, blocker := .clear }, line := { v.line with queue := t.line.queue }
            hist := { v.hist with reply := t.hist.reply, piece := t.hist.piece } }) ∧
        (s.ml.pendingMode = some .standby ∨ s.ml.pendingMode = some .cold → t.cycle.st = .idle ∧
          some t.mode = s.ml.pendingMode ∧ t.ml.pendingMode = none ∧ t.cycle.blocker = .clear))

/-- The HOLD input: the hold state follows its level (R13); a hard-hold release that finds an ask deferred in LIFT_WAIT and
no own entry in the view makes it (R15, R128), and any other change does nothing more. Before the end of the start sequence
the level alone changes, which is the model's reading (log 5). -/
def Obligations.HoldInputIsFollowed : Prop :=
  ∀ (s : State) (b : Bool),
    (s.power ≠ .running → exec (.holdInputChange b) s = .next { s with lines := { s.lines with holdIn := b } }) ∧
    (s.power = .running → ∃ t, exec (.holdInputChange b) s = .next t ∧
      t.hold = (if b then .hard else s.cycle.lineHold) ∧ t.lines = { s.lines with holdIn := b } ∧
      (¬(s.hold = .hard ∧ t.hold ≠ .hard ∧ s.cycle.deferred = true ∧ s.cycle.st = .liftWait ∧ s.ownEntry = none) →
        t = { s with lines := t.lines }) ∧
      (s.hold = .hard → t.hold ≠ .hard → s.cycle.deferred = true → s.cycle.st = .liftWait → s.ownEntry = none →
        t = { s with
          lines := t.lines, cycle := { s.cycle with deferred := false }, lift := t.lift
          line := { s.line with queue := t.line.queue }
          hist := { s.hist with reply := t.hist.reply, piece := t.hist.piece } } ∧
        AskMade s.lift t ∧
        (s.line.queue.length < 12 → newEntry (.ask (s.lift.ownAsk + 1#8)) ∈ t.line.queue ∧
          t.lift = { s.lift with ownAsk := s.lift.ownAsk + 1#8, outstanding := some (s.lift.ownAsk + 1#8) })))

/-- Until the start sequence has ended, CLOSE_REQ, PART_CLEAR, START, ACK, CLEAR, the temperature link with its loss, the 10
ms steps with their ends, the control tick and the access slots do nothing (R33, R172, R189, R195). For CLOSE_REQ and
PART_CLEAR this is the model's reading (log 5). In the start sequence WAKE, REST, HOLD, RELEASE, CLEAR, SELECT, QUERY, HGET
and HTAKE from a peer, to whatever destination, are taken for presence alone, act on no other block and are not answered
(R106, R195). -/
def Obligations.NothingActsBeforeTheStartEnds : Prop :=
  ∀ (s : State) (ok fault : Bool) (z : ZoneId) (reading : Int) (sense : Byte) (k : Nat) (src : Station) (dst b : Byte)
    (w : Wide), s.power ≠ .running →
    (∀ c ∈ [Instr.closeReq, .partClear, .startInput, .ackInput, .clearInput, .temperatureFrame ok z reading fault,
      .sensorLoss z, .windowStep sense, .leadInEnd z, .windowEnd z, .controlTick, .accessSlot k], exec c s = .next s) ∧
    (s.power = .starting → src ≠ s.own →
      ∀ c ∈ [Instr.rxWake src dst b, .rxRest src dst b, .rxHold src dst b, .rxRelease src dst, .rxClear src dst,
        .rxSelect src dst b, .rxQuery src dst, .rxHget src dst b w, .rxHtake src dst w],
        exec c s = .next (s.heardFrom src))

/-- HOLD and RELEASE from a peer, to this station or to all: the line hold takes the strength carried, or NONE, replacing
the one before (R13), with the same release as by the input (R15); to another station, or with another strength byte,
they are taken for presence alone (R157, R197). -/
def Obligations.HoldFramesSetTheLineHold : Prop :=
  ∀ (s : State) (src : Station) (dst strength : Byte), s.power = .running → src ≠ s.own →
    (dst.toNat < 16 → dst.toNat ≠ s.own.val →
      exec (.rxHold src dst strength) s = .next (s.heardFrom src) ∧
      exec (.rxRelease src dst) s = .next (s.heardFrom src)) ∧
    (1 < strength.toNat → exec (.rxHold src dst strength) s = .next (s.heardFrom src)) ∧
    ∀ (c : Instr) (h : Hold), 16 ≤ dst.toNat ∨ dst.toNat = s.own.val →
      (c = .rxHold src dst 0#8 ∧ h = .soft) ∨ (c = .rxHold src dst 1#8 ∧ h = .hard) ∨
        (c = .rxRelease src dst ∧ h = .free) →
      ∃ t, exec c s = .next t ∧ t.cycle.lineHold = h ∧ t.hold = (if s.lines.holdIn then .hard else h) ∧
        (¬(s.hold = .hard ∧ t.hold ≠ .hard ∧ s.cycle.deferred = true ∧ s.cycle.st = .liftWait ∧ s.ownEntry = none) →
          t = { s.heardFrom src with cycle := { s.cycle with lineHold := h } }) ∧
        (s.hold = .hard → t.hold ≠ .hard → s.cycle.deferred = true → s.cycle.st = .liftWait → s.ownEntry = none →
          t.cycle = { s.cycle with lineHold := h, deferred := false } ∧ AskMade s.lift t ∧
          t = { s.heardFrom src with
            cycle := t.cycle, lift := t.lift, line := { (s.heardFrom src).line with queue := t.line.queue }
            hist := { (s.heardFrom src).hist with reply := t.hist.reply, piece := t.hist.piece } } ∧
          ((s.heardFrom src).line.queue.length < 12 →
            newEntry (.ask (s.lift.ownAsk + 1#8)) ∈ t.line.queue))

/-! ### Flags, CLEAR and the modes (R21, R175 to R187) -/

/-- ACK leaves set exactly the flags of the level kinds whose condition holds, queues nothing and changes nothing else
(R184, R187). -/
def Obligations.AckLeavesLevelFlags : Prop :=
  ∀ (s : State), s.power = .running → ∃ t, exec .ackInput s = .next t ∧
    (∀ k, t.flag k = match k with
      | .tripped => decide (s.mode = .tripped)
      | .starved => s.share.starvedCond
      | .history => decide (s.hist.free = 0)
      | .config => s.attn.configCond
      | _ => false) ∧
    t = { s with attn := { s.attn with raw := t.attn.raw } }

/-- CLEAR, by the input, leaves what R21, R53, R158, R182 and R187 state, with PART of the aborted record (R29, R145) and
SHARE of a changed mode or cycle state (R99, R182) queued, and zone control running on (R33); addressed it makes the same
event and is answered, REFUSED_CAUSE where the station stays TRIPPED (R190); to another station or to all it is taken for
presence alone (R159). Causes are gone where every enabled zone has its over-limit mark clear and the latest five samples
off with no current (R51), five samples being asked for from power-on on by the model's choice (log 9). -/
def Obligations.ClearActsAsOneEvent : Prop :=
  ∀ (s : State) (src : Station) (dst : Byte), s.power = .running →
    (∃ t, exec .clearInput s = .next t ∧ ClearLeaves s t) ∧
    (s.causesGone = true ↔
      ∀ z, (s.zoneCfg z).enabled = true → (s.zone z).overLimit = false ∧ 5 ≤ (s.zone z).quiet) ∧
    (src ≠ s.own → dst.toNat = s.own.val → ∃ u, exec .clearInput (s.heardFrom src) = .next u ∧
      exec (.rxClear src dst) s = .next
        (u.enqueue (.answer src 17#8 (if u.mode = .tripped then .refusedCause else .taken)))) ∧
    (src ≠ s.own → dst.toNat ≠ s.own.val → exec (.rxClear src dst) s = .next (s.heardFrom src))

/-- START, WAKE and REST (R170, R175, R176): judged against the intended mode, the pending mode where one is present and the
mode in force otherwise, taken at once with PRESS empty and held as the pending mode with PRESS occupied, refused in TRIPPED
and, upwards, on a bad configuration; WAKE and REST are answered where they are addressed, a target of no use by
REFUSED_RANGE. A first entry to STANDBY or RUN starts zone control with its lead-ins and its first control tick (R33, R40,
R43), last in the entry by the model's choice (log 11). The wake timer takes the station to its wake mode (R178); the expiry
of a stopped one does nothing, which is the model's reading (log 3). -/
def Obligations.ModeRequestsAreJudged : Prop :=
  ∀ (s : State) (src : Station) (dst target : Byte), s.power = .running → src ≠ s.own →
    (∃ t v, exec .startInput s = .next t ∧
      RequestTaken (decide (s.mode ≠ .tripped) && s.cfg.good)
        (decide (modeCode (s.ml.pendingMode.getD s.mode) < 2)) .run s t v) ∧
    (∀ m, m = .standby ∨ m = .run → 16 ≤ dst.toNat ∨ dst.toNat = s.own.val → ∃ t v,
      RequestTaken (decide (s.mode ≠ .tripped) && s.cfg.good)
        (decide (modeCode (s.ml.pendingMode.getD s.mode) < modeCode m)) m
        (s.heardFrom src) t v ∧
      exec (.rxWake src dst (BitVec.ofNat 8 (modeCode m))) s =
        .next (if 16 ≤ dst.toNat then t else t.enqueue (.answer src 13#8 v))) ∧
    (∀ m, m = .standby ∨ m = .cold → 16 ≤ dst.toNat ∨ dst.toNat = s.own.val → ∃ t v,
      RequestTaken (decide (s.mode ≠ .tripped)) (decide (modeCode m < modeCode (s.ml.pendingMode.getD s.mode))) m
        (s.heardFrom src) t v ∧
      exec (.rxRest src dst (BitVec.ofNat 8 (modeCode m))) s =
        .next (if 16 ≤ dst.toNat then t else t.enqueue (.answer src 14#8 v))) ∧
    (dst.toNat = s.own.val →
      (target.toNat = 0 ∨ 3 ≤ target.toNat →
        exec (.rxWake src dst target) s = .next ((s.heardFrom src).enqueue (.answer src 13#8 .refusedRange))) ∧
      (2 ≤ target.toNat →
        exec (.rxRest src dst target) s = .next ((s.heardFrom src).enqueue (.answer src 14#8 .refusedRange)))) ∧
    (dst.toNat ≠ s.own.val →
      (dst.toNat < 16 ∨ target.toNat = 0 ∨ 3 ≤ target.toNat →
        exec (.rxWake src dst target) s = .next (s.heardFrom src)) ∧
      (dst.toNat < 16 ∨ 2 ≤ target.toNat → exec (.rxRest src dst target) s = .next (s.heardFrom src))) ∧
    (s.ml.wakeTimer = none → exec .wakeTimer s = .next s) ∧
    (s.ml.wakeTimer.isSome = true → s.mode = .cold → ∀ m, m = .standby ∨ m = .run → s.cfg.wakeMode = m →
      ∃ t, exec .wakeTimer s = .next t ∧ HotEntry m s t)

/-- A trip request out of any mode but TRIPPED enters TRIPPED (R180): by a valid reading at or above the absolute limit of
an enabled zone whose mark is clear, taken with what the reading itself moves and raises, the cycle by readiness alone (R3,
R37, R39), and by current at the
first counting off-step of an off-run, whether the output is off by its duty, its state, its lead-in or the TRIP output
(R50). In TRIPPED the same reading sets its mark, and the same current counts as handed; either queues one further TRIP, and
mode, TRIP and every other block stay (R181). Runs are counted by samples (log 8), all samples of a step are taken before
its requests (log 29), and a cycle already FAULTED stays as it is, without a new recovery opening (log 19): the model's
readings. -/
def Obligations.TripCausesTrip : Prop :=
  ∀ (s : State) (z : ZoneId) (reading : Int) (sense : Byte), s.power = .running → (s.zoneCfg z).enabled = true →
    (-500 ≤ reading → reading ≤ 4000 → s.cfg.tAbs ≤ reading → (s.zone z).overLimit = false →
      ∃ u : State, LimitReached z reading s u ∧
        (s.mode = .tripped →
          exec (.temperatureFrame true z reading false) s = .next (u.enqueue (.trip .overtemp z))) ∧
        (s.mode ≠ .tripped → ∃ t, exec (.temperatureFrame true z reading false) s = .next t ∧
          TripEntry .overtemp z u t ∧
          (∀ sp ∈ s.setpoint, (s.zone z).state = .active → sp + s.cfg.margin < reading → t.flag .overheat = true) ∧
          (s.room 4 → newEntry (.trip .overtemp z) ∈ t.line.queue))) ∧
    ((s.zone z).state ≠ .active ∨ (s.zone z).duty = 0 ∨ s.lines.tripOut = true ∨
        (match (s.zone z).pos with
          | .idle => True
          | .leadIn left => left ≠ 1
          | .begins => False
          | .step n => n ≠ 199 ∧ (s.zone z).duty ≤ n + 1) →
      (s.zone z).runOn = false → 5 ≤ (s.zone z).runLen → (s.zone z).stuckSent = false → sense.getLsbD z.val = true →
      (s.mode ≠ .tripped → ∃ t, exec (.windowStep sense) s = .next t ∧ t.mode = .tripped ∧ t.lines.tripOut = true ∧
        t.cycle.st = .faulted ∧ t.share.claim = 0 ∧ t.share.raising = none ∧ t.ml.pendingMode = none ∧
        t.ml.wakeTimer = none ∧ t.flag .tripped = true ∧ (t.zone z).stuckSent = true ∧
        (∀ y, (t.zone y).state = .off ∧ (t.zone y).integ = 0 ∧ t.zoneOut y = false)) ∧
      ((∀ y, y ≠ z → (s.zoneCfg y).enabled = true → sense.getLsbD y.val = true →
          (s.zone y).runOn = true ∨ (s.zone y).runLen < 5 ∨ (s.zone y).stuckSent = true) →
        (∀ y, (s.zone y).pos ≠ .step 199) →
        ∃ u : State, StepTaken s u ∧ (u.zone z).stuckSent = true ∧ (u.zone z).quiet = 0 ∧
          (s.mode = .tripped → exec (.windowStep sense) s = .next (u.enqueue (.trip .stuck z))) ∧
          (s.mode ≠ .tripped → ∃ t, exec (.windowStep sense) s = .next t ∧ TripEntry .stuck z u t)))

/-! ### Zones (R36 to R57) -/

/-- Readings (R34, R36 to R39): the setpoint is the cure setpoint of the active recipe in RUN, the standby setpoint in
STANDBY, and none in COLD and TRIPPED; a frame that fails the link's check, or names a zone not enabled, is discarded; a
fault flag or a reading out of range makes the reading invalid, as does the age of 1000 ms, and puts ACTIVE and OVERHEAT in
SENSOR_FAULT; a valid reading that makes no trip request moves the zone by R37 against the setpoint, and clears the mark
below the absolute limit. Only the zone named changes, but for the in-band flags and readiness that follow, and the cycle
moves by readiness alone, from WARMING to LOADING and back (R3, R20). A zone that
leaves ACTIVE is off at once, and one that enters ACTIVE is off until the next step (R45). That a reading may be any integer
(log 28), and that the age of a zone without a running loss timer does nothing (log 3), are the model's readings. -/
def Obligations.ReadingsMoveTheZone : Prop :=
  ∀ (s : State) (z : ZoneId) (reading : Int) (fault : Bool), s.power = .running →
    s.setpoint = (match s.mode with
      | .run => some s.cfg.recipes[s.weigh.recipe].cureSp
      | .standby => some s.cfg.standbySp
      | .cold | .tripped => none) ∧
    exec (.temperatureFrame false z reading fault) s = .next s ∧
    ((s.zoneCfg z).enabled = false → exec (.temperatureFrame true z reading fault) s = .next s) ∧
    ((s.zone z).loss = none → exec (.sensorLoss z) s = .next s) ∧
    (∀ (c : Instr) (loss : Timer), (c = .temperatureFrame true z reading fault ∧ loss = some 1000 ∧
        (s.zoneCfg z).enabled = true ∧ (fault = true ∨ reading < -500 ∨ 4000 < reading)) ∨
        (c = .sensorLoss z ∧ loss = none ∧ (s.zone z).loss.isSome = true) →
      ∃ t, exec c s = .next t ∧
        t.zone z = { s.zone z with
          valid := false, loss := loss, inBand := false
          state := if (s.zone z).state = .active ∨ (s.zone z).state = .overheat then .sensorFault
            else (s.zone z).state } ∧
        ((s.zone z).state = .active → t.zoneOut z = false) ∧
        (∀ y, y ≠ z → t.zone y = { s.zone y with inBand := (t.zone y).inBand }) ∧
        MovedByReadiness s t ∧
        t = { s with
          zu := { s.zu with
            table := t.zu.table, allInBand := t.zu.allInBand, soakCount := t.zu.soakCount, soakTimer := t.zu.soakTimer
            ready := t.zu.ready }
          cycle := { s.cycle with st := t.cycle.st }, line := { s.line with queue := t.line.queue }
          hist := { s.hist with reply := t.hist.reply, piece := t.hist.piece } }) ∧
    ((s.zoneCfg z).enabled = true → fault = false → -500 ≤ reading → reading ≤ 4000 →
      reading < s.cfg.tAbs ∨ (s.zone z).overLimit = true →
      ∃ t, exec (.temperatureFrame true z reading fault) s = .next t ∧
        (t.zone z).temp = reading ∧ (t.zone z).valid = true ∧ (t.zone z).loss = some 1000 ∧
        (t.zone z).overLimit = decide (s.cfg.tAbs ≤ reading) ∧
        (∀ sp ∈ s.setpoint,
          ((s.zone z).state = .active ∨ (s.zone z).state = .sensorFault →
            (t.zone z).state = if sp + s.cfg.margin < reading then .overheat else .active) ∧
          ((s.zone z).state = .overheat →
            (t.zone z).state = if reading < sp + s.cfg.margin / 2 then .active else .overheat)) ∧
        ((s.zone z).state = .off ∨ (s.zone z).state = .lockedOut ∨ s.setpoint = none →
          (t.zone z).state = (s.zone z).state) ∧
        Raised (if (t.zone z).state = .overheat ∧ (s.zone z).state ≠ .overheat then [.overheat] else []) s t ∧
        ((t.zone z).state ≠ .active ∨ (s.zone z).state ≠ .active → t.zoneOut z = false) ∧
        (t.zone z).entered =
          ((s.zone z).entered || (decide ((t.zone z).state = .active) && decide ((s.zone z).state ≠ .active))) ∧
        t.zone z = { s.zone z with
          temp := reading, valid := true, loss := some 1000, overLimit := (t.zone z).overLimit
          state := (t.zone z).state, inBand := (t.zone z).inBand, entered := (t.zone z).entered } ∧
        (∀ y, y ≠ z → t.zone y = { s.zone y with inBand := (t.zone y).inBand }) ∧
        MovedByReadiness s t ∧
        t = { s with
          zu := { s.zu with
            table := t.zu.table, allInBand := t.zu.allInBand, soakCount := t.zu.soakCount, soakTimer := t.zu.soakTimer
            ready := t.zu.ready }
          cycle := { s.cycle with st := t.cycle.st }, line := { s.line with queue := t.line.queue }
          hist := { s.hist with reply := t.hist.reply, piece := t.hist.piece }, attn := t.attn })

/-- One 10 ms step (R43 to R45, R47, R48, R51). With no window at its end, and no current at a counting off-step, a step
that switches an output on among them: every window advances by one step; each enabled zone is sampled against its output,
which is on exactly in ACTIVE with TRIP released below step d', also for a zone that entered ACTIVE since the step before; a
sample counts from the sixth step of its run on. Nothing outside the zone table changes, and of an entry only the position,
the mark of R45 and the monitor's figures. A step that finds a window at its end takes that end first, as WINDOW_END does,
and then goes on; that it does, with step 0 after an end, and the lowest zone first where several are due, is log 7, the run
counted by samples log 8, the count of quiet samples log 9: the model's readings. -/
def Obligations.WindowStepSamples : Prop :=
  ∀ (s : State) (sense : Byte), s.power = .running →
    (∀ z : ZoneId, (s.zone z).pos = .step 199 → (∀ y : ZoneId, y.val < z.val → (s.zone y).pos ≠ .step 199) →
      ∃ u, exec (.windowEnd z) s = .next u ∧ exec (.windowStep sense) s = exec (.windowStep sense) u) ∧
    ((∀ z, (s.zone z).pos ≠ .step 199) →
    (∀ z, (s.zoneCfg z).enabled = true → sense.getLsbD z.val = true →
      (s.zone z).runOn = true ∨ (s.zone z).runLen < 5 ∨ (s.zone z).stuckSent = true ∨
        ((s.zone z).state = .active ∧ s.lines.tripOut = false ∧ (match (s.zone z).pos with
          | .idle => false
          | .leadIn left => decide (left = 1) && decide (0 < (s.zone z).duty)
          | .begins => decide (0 < (s.zone z).duty)
          | .step n => decide (n + 1 < (s.zone z).duty)) = true)) →
    ∃ t, exec (.windowStep sense) s = .next t ∧ t = { s with zu := { s.zu with table := t.zu.table } } ∧
      ∀ z,
        ((s.zone z).pos = .idle → (t.zone z).pos = .idle) ∧
        ((s.zone z).pos = .begins ∨ (s.zone z).pos = .leadIn 1 → (t.zone z).pos = .step 0) ∧
        (∀ n ∈ List.range 200, (s.zone z).pos = .leadIn (n + 2) → (t.zone z).pos = .leadIn (n + 1)) ∧
        (∀ n ∈ List.range 199, (s.zone z).pos = .step n → (t.zone z).pos = .step (n + 1)) ∧
        t.zone z = { s.zone z with
          pos := (t.zone z).pos, runOn := (t.zone z).runOn, runLen := (t.zone z).runLen
          stuckSent := (t.zone z).stuckSent, onStep := (t.zone z).onStep, seen := (t.zone z).seen
          quiet := (t.zone z).quiet, entered := false } ∧
        ((s.zoneCfg z).enabled = true →
          (t.zone z).runOn = t.zoneOut z ∧
          ((t.zone z).runOn = true ↔ (s.zone z).state = .active ∧ s.lines.tripOut = false ∧
            ((List.range (s.zone z).duty).any fun n => decide ((t.zone z).pos = .step n)) = true) ∧
          (t.zone z).runLen = (if (s.zone z).runOn = t.zoneOut z then (s.zone z).runLen + 1 else 1) ∧
          (t.zone z).onStep = ((s.zone z).onStep || (t.zoneOut z && decide (5 < (t.zone z).runLen))) ∧
          (t.zone z).seen = ((s.zone z).seen ||
            (t.zoneOut z && decide (5 < (t.zone z).runLen) && sense.getLsbD z.val)) ∧
          (t.zone z).quiet =
            (if t.zoneOut z || sense.getLsbD z.val then 0 else min 5 ((s.zone z).quiet + 1)) ∧
          ((t.zone z).runOn ≠ (s.zone z).runOn → (t.zone z).stuckSent = false) ∧
          ((t.zone z).runOn = (s.zone z).runOn → (t.zone z).stuckSent = (s.zone z).stuckSent)))

/-- The end of a window (R43, R48, R49): neutral without a counting on-step, good where current was seen at one, and open
otherwise, which counts up to 5, locks the zone out at the threshold, and raises ZONE_FAULT there and at a count of 1; a
zone that is OFF stays OFF with its mark, and the window is judged whatever the zone's state at its end, which are the
model's readings (log 10), and so is the judgment by counting on-steps where there are at most 5 on-steps (log 39). The end
of a lead-in makes the first window begin, at the position between the end and step 0 (log 7). The cycle moves by readiness
alone (R3, R20). Off an end neither does
anything (log 3). -/
def Obligations.WindowsAreJudged : Prop :=
  ∀ (s : State) (z : ZoneId), s.power = .running →
    ((s.zone z).pos ≠ .step 199 → exec (.windowEnd z) s = .next s) ∧
    ((s.zone z).pos ≠ .leadIn 1 → exec (.leadInEnd z) s = .next s) ∧
    ((s.zone z).pos = .leadIn 1 → ∃ t, exec (.leadInEnd z) s = .next t ∧
      t.zone z = { s.zone z with pos := .begins } ∧ (∀ y, y ≠ z → t.zone y = s.zone y) ∧
      t = { s with zu := { s.zu with table := t.zu.table } }) ∧
    ((s.zone z).pos = .step 199 → ∃ t, exec (.windowEnd z) s = .next t ∧
      t.zone z = { s.zone z with
        pos := .begins, onStep := false, seen := false, opens := (t.zone z).opens, lockout := (t.zone z).lockout
        state := (t.zone z).state, inBand := (t.zone z).inBand } ∧
      (t.zone z).opens = (if (s.zone z).onStep = false then (s.zone z).opens
        else if (s.zone z).seen then 0 else min 5 ((s.zone z).opens + 1)) ∧
      ((s.zone z).onStep = false ∨ (s.zone z).seen = true ∨ (t.zone z).opens ≠ s.cfg.escalation →
        (t.zone z).lockout = (s.zone z).lockout ∧ (t.zone z).state = (s.zone z).state) ∧
      ((s.zone z).onStep = true → (s.zone z).seen = false → (t.zone z).opens = s.cfg.escalation →
        (t.zone z).lockout = true ∧ (t.zone z).state = (if (s.zone z).state = .off then .off else .lockedOut)) ∧
      Raised (if (s.zone z).onStep = true ∧ (s.zone z).seen = false ∧
        ((t.zone z).opens = s.cfg.escalation ∨ (t.zone z).opens = 1) then [.zoneFault] else []) s t ∧
      (∀ y, y ≠ z → t.zone y = { s.zone y with inBand := (t.zone y).inBand }) ∧
      MovedByReadiness s t ∧
      t = { s with
        zu := { s.zu with
          table := t.zu.table, allInBand := t.zu.allInBand, soakCount := t.zu.soakCount, soakTimer := t.zu.soakTimer
          ready := t.zu.ready }
        cycle := { s.cycle with st := t.cycle.st }, line := { s.line with queue := t.line.queue }
        hist := { s.hist with reply := t.hist.reply, piece := t.hist.piece }, attn := t.attn })

/-- The control tick of the zones (R40 to R42, R86, R87): the demand of an ACTIVE zone is the limited sum of its proportional
and integral parts, that of any other 0; load and desired claim follow; the duties are scaled under the claim that
stands after the tick; the integrators move where the duty was not curtailed and the demand not at the limit its error
drives it to. Without zone control nothing happens, which is the model's reading (log 3). -/
def Obligations.ControlTickSetsDuties : Prop :=
  ∀ (s : State), s.power = .running →
    (s.zu.control = none → exec .controlTick s = .next s) ∧
    (s.zu.control.isSome = true → ∃ t, exec .controlTick s = .next t ∧
      t = { s with
        zu := { s.zu with table := t.zu.table }, share := t.share
        line := { s.line with queue := t.line.queue }
        hist := { s.hist with reply := t.hist.reply, piece := t.hist.piece } } ∧
      t.share.load = (zoneIds.map fun z => if (s.zoneCfg z).enabled then
        (t.zone z).d * (s.zoneCfg z).power else 0).sum ∧
      t.share.want = min ((t.share.load + 19999) / 20000) s.share.ceiling ∧
      (t.share.curtailed = true ↔ ∃ z, (t.zone z).duty < (t.zone z).d) ∧
      ∀ z (e : Int), e = max (-1000) (min 1000 (s.setpoint.getD 0 - (s.zone z).temp)) →
        t.zone z = { s.zone z with d := (t.zone z).d, duty := (t.zone z).duty, integ := (t.zone z).integ } ∧
        ((s.zone z).state ≠ .active ∨ s.setpoint = none →
          (t.zone z).d = 0 ∧ (t.zone z).integ = (s.zone z).integ) ∧
        ((s.zone z).state = .active → s.setpoint.isSome = true →
          ((t.zone z).d : Int) =
            max 0 (min 200 ((e * ((s.zoneCfg z).kp : Int)).tdiv 64 + (s.zone z).integ / 16)) ∧
          (t.zone z).integ = (if (t.zone z).duty < (t.zone z).d ∨ ((t.zone z).d = 200 ∧ 0 < e) ∨
            ((t.zone z).d = 0 ∧ e < 0) then (s.zone z).integ
            else max 0 (min 3200 ((s.zone z).integ + (e * ((s.zoneCfg z).ki : Int)).tdiv 256)))) ∧
        (t.zone z).duty = (if (s.zoneCfg z).enabled then
          (if t.share.load ≤ 20000 * t.share.claim then (t.zone z).d
            else (t.zone z).d * (20000 * t.share.claim) / t.share.load) else 0))

/-! ### The claim (R84 to R103) -/

/-- The decisions of the control tick on the claim (R88, R89, R95 to R97): with a raise pending, and in COLD and TRIPPED,
the claim, the raise and, with a raise pending, the starved state stand. Otherwise the claim is lowered to the desired one
where it lies h or more above it; a station above its fair share yields to a starved one below its own, by at most a
sixteenth of the budget; one that does not yield and wants more queues RAISE where there is room, and is starved where there
is none; and a station that has what it wants is not starved, in COLD and TRIPPED too. The starve timer and the STARVED
condition follow the starved state (R97, R98), and a change of claim or starved state queues SHARE (R99). The sums over the
peers and the weights are those of R85 and R94. -/
def Obligations.ControlTickDecidesClaim : Prop :=
  ∀ (s t : State), s.power = .running → s.zu.control.isSome = true → exec .controlTick s = .next t →
    PeersCounted s ∧
    (s.share.raising.isSome = true →
      t.share.claim = s.share.claim ∧ t.share.raising = s.share.raising ∧ t.share.starved = s.share.starved) ∧
    (s.mode = .cold ∨ s.mode = .tripped →
      t.share.claim = s.share.claim ∧ t.share.raising = s.share.raising ∧ (s.share.raising = none →
        t.share.starved = (s.share.starved && decide (t.share.claim < t.share.want)))) ∧
    t.share = { s.share.starvedAs t.share.starved with
      claim := t.share.claim, raising := t.share.raising, load := t.share.load, want := t.share.want
      curtailed := t.share.curtailed } ∧
    (t.share.claim ≠ s.share.claim ∨ t.share.starved ≠ s.share.starved → s.mode ≠ .cold →
      s.line.queue.length + 1 < 12 → t.ShareWaits) ∧
    (s.mode = .standby ∨ s.mode = .run → s.share.raising = none → ∀ (c fair : Nat) (yields : Bool),
      c = (if t.share.want + max 1 (s.share.ceiling / 20) ≤ s.share.claim then t.share.want else s.share.claim) →
      fair = s.share.bEff * weightOf s.mode s.cycle.st / s.weightSum →
      yields = (decide (fair < c) && stationIds.any fun p => decide (p ≠ s.own) &&
        decide ((s.peer p).presence = .fresh) && (s.peer p).held && (s.peer p).starved &&
        decide ((s.peer p).claim < s.share.bEff * weightOf (s.peer p).mode (s.peer p).cycle / s.weightSum)) →
      t.share.claim = (if yields then max fair (c - (s.share.bEff + 15) / 16) else c) ∧
      (t.share.want ≤ t.share.claim → t.share.starved = false ∧ t.share.raising = none) ∧
      (yields = true → t.share.claim < t.share.want → t.share.starved = true ∧ t.share.raising = none) ∧
      (yields = false → s.share.listen.isSome = true → t.share.raising = none ∧
        (t.share.claim < t.share.want → t.share.starved = s.share.starved)) ∧
      (yields = false → s.share.listen = none → c < t.share.want →
        (s.share.bEff ≤ s.oRaise + c → t.share.starved = true ∧ t.share.raising = none) ∧
        (s.oRaise + c < s.share.bEff → t.share.starved = s.share.starved ∧
          (t.share.raising = none ∨ t.share.raising = some t.share.want) ∧
          (s.line.queue.length + 1 < 12 → t.share.raising = some t.share.want ∧
            ∃ e ∈ t.line.queue, e.inFlight = false ∧ e.msg = .raise t.share.want))))

/-! ### Weighing (R58 to R81) -/

/-- A weigh frame, and the loss timer (R60 to R63): a frame is discarded in INACTIVE and where it fails the link's check; the
mass of its count is limited and the timer restarted; an overrange or limited reading, and the expiry of the timer, are
weigh faults, which empty the window, and suspend a link that was weighing and raise WEIGH_FAULT; a valid reading enters
the window, the sixteenth ends a suspension, and a full window that is stable makes a stable event of its mean. The expiry
of a stopped timer does nothing, which is the model's reading (log 3). -/
def Obligations.WeighFramesAreTaken : Prop :=
  ∀ (s : State) (count : BitVec 24) (overrange : Bool) (m : Int) (w : List Int) (l : LinkState),
    m = (count.toInt - s.cfg.scaleZero) * s.cfg.scaleK / 65536 →
    w = (s.weigh.window ++ [m]).drop (s.weigh.window.length + 1 - 16) → s.weigh.window.length ≤ 16 →
    l = (if w.length = 16 then .weighing else s.weigh.link) →
    exec (.weighFrame false count overrange) s = .next s ∧
    (s.weigh.link = .inactive → exec (.weighFrame true count overrange) s = .next s) ∧
    (s.weigh.lossTimer = none → exec .weighLossTimer s = .next s) ∧
    (∀ (c : Instr) (latest : Int) (timer : Timer),
      (c = .weighFrame true count overrange ∧ s.weigh.link ≠ .inactive ∧
        (overrange = true ∨ m < -32768 ∨ 300000 < m) ∧ latest = max (-32768) (min m 300000) ∧ timer = some 100) ∨
        (c = .weighLossTimer ∧ s.weigh.lossTimer.isSome = true ∧ latest = s.weigh.latest ∧ timer = none) →
      ∃ t, exec c s = .next t ∧
        t.weigh = { s.weigh with
          latest := latest, lossTimer := timer, window := []
          link := if s.weigh.link = .weighing then .suspended else s.weigh.link } ∧
        Raised (if s.weigh.link = .weighing then [.weighFault] else []) s t ∧
        (s.weigh.link ≠ .weighing → t = { s with weigh := t.weigh }) ∧
        t = { s with
          weigh := t.weigh, attn := { s.attn with raw := t.attn.raw }, line := { s.line with queue := t.line.queue } }) ∧
    (s.weigh.link ≠ .inactive → overrange = false → -32768 ≤ m → m ≤ 300000 →
      ((w.length < 16 ∨ (∃ a ∈ w, ∃ b ∈ w, s.cfg.stableBand < a - b)) →
        exec (.weighFrame true count overrange) s = .next { s with weigh := { s.weigh with
          latest := m, lossTimer := some 100, window := w, link := l } }) ∧
      (w.length = 16 → (∀ a ∈ w, ∀ b ∈ w, a - b ≤ s.cfg.stableBand) →
        exec (.weighFrame true count overrange) s = .next ({ s with weigh := { s.weigh with
          latest := m, lossTimer := some 100, window := w, link := l } }.stableEvent (w.sum / 16))))

/-- A stable event on an empty scale refreshes the tare within the zero band, and from the least ply mass up begins a build
with its first ply, re-checked against the recipe (R66, R70); one in WAITING_STAGE, and one of a disturbed stack still above
the zero band, change nothing (R67, R72). A lift-off stages an accepted build, holds it in WAITING_STAGE where STAGED is
occupied, and discards any other with CHARGE_DISCARDED (R67, R73). -/
def Obligations.StableEventsBeginAndEndBuilds : Prop :=
  ∀ (s : State) (v net : Int), net = v - s.weigh.tare →
    (s.weigh.build.state = .empty →
      (-s.cfg.zeroBand ≤ net → net ≤ s.cfg.zeroBand →
        s.stableEvent v = { s with weigh := { s.weigh with tare := v } }) ∧
      (s.cfg.zeroBand < net → s.cfg.plyMin ≤ net → ∃ st,
        s.stableEvent v = { s with weigh := { s.weigh with build := ⟨st, net, [net], false⟩ } } ∧
        Rechecked s.recipe ⟨st, net, [net], false⟩) ∧
      ((net < -s.cfg.zeroBand ∧ net < s.cfg.plyMin) ∨ (s.cfg.zeroBand < net ∧ net < s.cfg.plyMin) →
        s.stableEvent v = s)) ∧
    (s.weigh.build.state = .waitingStage → s.stableEvent v = s) ∧
    (s.weigh.build.state = .disturbed → s.cfg.zeroBand < net → s.stableEvent v = s) ∧
    (net ≤ s.cfg.zeroBand →
      (s.weigh.build.state = .accepted → s.weigh.staged = none →
        s.stableEvent v = { s with weigh := { s.weigh with
          staged := some ⟨s.weigh.build.total, s.weigh.build.plies, s.weigh.recipe⟩, build := emptyBuild } }) ∧
      (s.weigh.build.state = .accepted → s.weigh.staged.isSome = true →
        s.stableEvent v = { s with weigh := { s.weigh with
          build := { s.weigh.build with state := .waitingStage } } }) ∧
      (s.weigh.build.state = .building ∨ s.weigh.build.state = .overfull ∨ s.weigh.build.state = .disturbed →
        Raised [.chargeDiscarded] s (s.stableEvent v) ∧
        s.stableEvent v = { s with
          weigh := { s.weigh with build := emptyBuild }, attn := (s.stableEvent v).attn
          line := (s.stableEvent v).line }))

/-- A stable event on a stack above the zero band (R68 to R71): a rise of the least ply mass or more adds a ply, or beyond 24
plies sets the overflow mark; any other clears the mark of a build in OVER; a fall of the least ply mass or more takes off
the last ply where it matches it, and disturbs the build otherwise; any smaller change leaves an unmarked build as it is.
After a ply added or removed, and after the mark is cleared, the state is the one that the re-check against the recipe
gives (R70). -/
def Obligations.StableEventsChangePlies : Prop :=
  ∀ (s : State) (v net last fall : Int) (mark : Bool) (t : State), t = s.stableEvent v → net = v - s.weigh.tare →
    last = s.weigh.build.plies.getLastD 0 → fall = s.weigh.build.total - net →
    mark = (if s.weigh.build.state = .overfull then false else s.weigh.build.overflow) →
    s.weigh.build.state = .building ∨ s.weigh.build.state = .accepted ∨ s.weigh.build.state = .overfull →
    s.cfg.zeroBand < net → 1 ≤ s.cfg.plyMin →
    (fall ≤ -s.cfg.plyMin → s.weigh.build.plies.length < 24 →
      t.weigh.build = ⟨t.weigh.build.state, net, s.weigh.build.plies ++ [-fall], s.weigh.build.overflow⟩ ∧
      Rechecked s.recipe t.weigh.build) ∧
    (fall ≤ -s.cfg.plyMin → 24 ≤ s.weigh.build.plies.length →
      t.weigh.build = { s.weigh.build with overflow := true, state := .overfull }) ∧
    (s.cfg.plyMin ≤ fall → last - s.cfg.plyMatch ≤ fall → fall ≤ last + s.cfg.plyMatch →
      (s.weigh.build.plies.dropLast = [] → t.weigh.build = emptyBuild) ∧
      (s.weigh.build.plies.dropLast ≠ [] →
        t.weigh.build =
          ⟨t.weigh.build.state, s.weigh.build.total - last, s.weigh.build.plies.dropLast, mark⟩ ∧
        Rechecked s.recipe t.weigh.build)) ∧
    (s.cfg.plyMin ≤ fall → fall < last - s.cfg.plyMatch ∨ last + s.cfg.plyMatch < fall →
      t.weigh.build = { s.weigh.build with state := .disturbed, overflow := mark } ∧
      Raised [.buildDisturbed] s t) ∧
    (-s.cfg.plyMin < fall → fall < s.cfg.plyMin →
      (s.weigh.build.state ≠ .overfull ∨ s.weigh.build.overflow = false → t = s) ∧
      (s.weigh.build.state = .overfull → s.weigh.build.overflow = true →
        t.weigh.build = { s.weigh.build with state := t.weigh.build.state, overflow := false } ∧
        Rechecked s.recipe t.weigh.build)) ∧
    (t.weigh.build.state ≠ .disturbed → t = { s with weigh := { s.weigh with build := t.weigh.build } }) ∧
    t = { s with
      weigh := { s.weigh with build := t.weigh.build }, attn := t.attn, line := { s.line with queue := t.line.queue } }

/-- SELECT (R76, R77): a recipe number at or above the count is answered REFUSED_RANGE, a station that holds a charge or
runs a cycle REFUSED_BUSY, and any other takes the recipe, in RUN with a new setpoint against which the zones are tested
(R34), OVERHEAT being raised where a zone enters it (R37), and the cycle moves by readiness alone (R3). -/
def Obligations.SelectIsJudged : Prop :=
  ∀ (s : State) (src : Station) (dst recipe : Byte), s.power = .running → src ≠ s.own →
    (dst.toNat ≠ s.own.val → exec (.rxSelect src dst recipe) s = .next (s.heardFrom src)) ∧
    (dst.toNat = s.own.val → 8 ≤ recipe.toNat ∨ s.cfg.recipeCount ≤ recipe.toNat →
      exec (.rxSelect src dst recipe) s = .next ((s.heardFrom src).enqueue (.answer src 18#8 .refusedRange))) ∧
    (∀ r : Fin 8, dst.toNat = s.own.val → recipe.toNat = r.val → r.val < s.cfg.recipeCount →
      (s.weigh.build.state ≠ .empty ∨ s.weigh.staged.isSome = true ∨ s.weigh.press.isSome = true ∨
          (s.cycle.st ≠ .idle ∧ s.cycle.st ≠ .warming ∧ s.cycle.st ≠ .loading) →
        exec (.rxSelect src dst recipe) s = .next ((s.heardFrom src).enqueue (.answer src 18#8 .refusedBusy))) ∧
      (s.weigh.build.state = .empty → s.weigh.staged = none → s.weigh.press = none →
          s.cycle.st = .idle ∨ s.cycle.st = .warming ∨ s.cycle.st = .loading →
        ∃ u : State, exec (.rxSelect src dst recipe) s = .next (u.enqueue (.answer src 18#8 .taken)) ∧
          u.weigh = { s.weigh with recipe := r } ∧
          (∀ z, (u.zone z).state = (if s.mode = .run ∧ s.cfg.recipes[r].cureSp ≠ s.recipe.cureSp ∧
              (s.zone z).valid = true ∧ ((s.zone z).state = .active ∨ (s.zone z).state = .overheat) then
            retested s.cfg.recipes[r].cureSp s.cfg.margin (s.zone z)
            else (s.zone z).state)) ∧
          u.recipe = s.cfg.recipes[r] ∧ u.BandsJudged ∧
          Raised (if zoneIds.any (fun z => decide ((s.zone z).state ≠ .overheat) && decide ((u.zone z).state = .overheat))
            then [.overheat] else []) (s.heardFrom src) u ∧
          (∀ z, u.zone z = { (s.heardFrom src).zone z with
            state := (u.zone z).state, inBand := (u.zone z).inBand, entered := (u.zone z).entered }) ∧
          MovedByReadiness (s.heardFrom src) u ∧
          ∃ h, h = s.heardFrom src ∧ u = { h with
            weigh := u.weigh, zu := { h.zu with
              table := u.zu.table, allInBand := u.zu.allInBand, soakCount := u.zu.soakCount
              soakTimer := u.zu.soakTimer, ready := u.zu.ready }
            cycle := { h.cycle with st := u.cycle.st }, line := { h.line with queue := u.line.queue }
            hist := { h.hist with reply := u.hist.reply, piece := u.hist.piece }, attn := u.attn }))

/-! ### The peer entries and the lift view (R84, R93, R105 to R135) -/

/-- Presence and age (R106 to R108, R110, R117, R159): PART, HDATA, HNONE, HBUSY, REPORT, ALERT, TRIP and ANSWER make their
source FRESH with its age restarted, an ABSENT one with nothing held, and do nothing else; RAISE also sets or raises the
bound of its source; an age that expires makes a FRESH entry STALE. Every such update is handed to the Share Unit, which
counts the entries as R85 states. The expiry of an age for an entry that is not FRESH does nothing, which is the model's
reading (log 3). -/
def Obligations.PeerEntriesAreUpdated : Prop :=
  ∀ (s : State) (src : Station) (dst : Byte) (claim : Half) (e : Half) (w : Wide) (b b' : Byte) (data : Vector Byte 9)
    (payload : Vector Byte 12) (u : State), s.power ≠ .off → src ≠ s.own →
    u = { s with
      line := { s.line with idle := true, lastSender := src }
      peers := s.peers.set src (if (s.peer src).presence = .absent then
        { absentPeer with presence := .fresh, age := some 3000 }
        else { s.peer src with presence := .fresh, age := some 3000 }) } →
    PeersCounted s ∧
    (∀ c ∈ [Instr.rxPart src dst e w b, .rxHdata src dst e b data, .rxHnone src dst b, .rxHbusy src dst,
        .rxReport src dst payload, .rxAlert src dst b, .rxTrip src dst b b', .rxAnswer src dst b b'],
      ∃ t, exec c s = .next t ∧ HandedOn u t ∧ t = s.heardFrom src) ∧
    (∃ t, exec (.rxRaise src dst claim) s = .next t ∧
      HandedOn { u with peers := u.peers.set src { u.peer src with
        bound := some (match (u.peer src).bound with | some x => max x claim.toNat | none => claim.toNat) } } t) ∧
    ((s.peer src).presence ≠ .fresh → exec (.ageTimer src) s = .next s) ∧
    ((s.peer src).presence = .fresh → ∃ t, exec (.ageTimer src) s = .next t ∧
      HandedOn { s with peers := s.peers.set src { s.peer src with presence := .stale, age := none } } t)

/-- SHARE (R109, R115, R133): its fields overwrite the entry of its source, a bound held is dropped, a differing ceiling or
budget is counted and raised at the first and at every sixteenth count, the entry so overwritten is handed to the Share Unit
(R84, R93, R117), and the view is then reconciled with the position carried; one with an undefined mode, cycle or position
is taken for presence alone (R197). That a pass names the entry at the head, also where another ask is outstanding, is the
model's reading (log 15), and the mark of a pass is the model's own (log 24). -/
def Obligations.ShareOverwritesTheEntry : Prop :=
  ∀ (s : State) (src : Station) (dst : Byte) (claim ceiling budget : Half) (mode cycle flags ask : Byte),
    s.power ≠ .off → src ≠ s.own →
    (4 ≤ mode.toNat ∨ 9 ≤ cycle.toNat ∨ flags.toNat % 4 = 3 →
      exec (.rxShare src dst claim ceiling budget mode cycle flags ask) s = .next (s.heardFrom src)) ∧
    ∀ (m : Mode) (y : CycleState) (conflict : Bool) (entry : Peer) (w : State) (v : List LiftEntry),
      mode.toNat = modeCode m → cycle.toNat = cycleCode y → flags.toNat % 4 ≠ 3 →
      conflict = ((s.peer src).presence != .absent && (s.peer src).held &&
        ((s.peer src).ceiling != ceiling.toNat || (s.peer src).budget != budget.toNat)) →
      entry = {
        presence := .fresh, age := some 3000, held := true, claim := claim.toNat, bound := none
        ceiling := ceiling.toNat, budget := budget.toNat, starved := flags.getLsbD 7, mode := m, cycle := y
        pos := if flags.toNat % 4 = 0 then .away else if flags.toNat % 4 = 1 then .waiting ask else .holding ask
        conflicts := if (s.peer src).presence = .absent then 0 else
          if conflict then min 255 ((s.peer src).conflicts + 1) else (s.peer src).conflicts } →
      w = { s with line := { s.line with idle := true, lastSender := src }, peers := s.peers.set src entry } →
      v = (if flags.toNat % 4 = 0 then s.lift.view.filter (fun e => decide (e.station ≠ src))
        else if s.lift.view.any (fun e => decide (e.station = src)) then
          s.lift.view.map (fun e => if e.station = src then ⟨src, ask⟩ else e)
        else s.lift.view ++ [⟨src, ask⟩]) →
      ∃ t u, exec (.rxShare src dst claim ceiling budget mode cycle flags ask) s = .next t ∧
        HandedOn (if conflict = true ∧ (entry.conflicts = 1 ∨ entry.conflicts % 16 = 0)
          then w.raiseKind .stationConflict else w) u ∧
        ViewTaken v u t ∧
        t.peer src = entry ∧ (∀ p, p ≠ src → t.peer p = s.peer p) ∧
        (conflict = true → entry.conflicts = 1 ∨ entry.conflicts % 16 = 0 → t.flag .stationConflict = true)

/-- LEAVE and FORGET (R112 to R114, R124): LEAVE, and a FORGET to all that names a peer, make the entry ABSENT and take the
peer's lift entry out of the view; a FORGET to this station makes the entry ABSENT and is answered, and leaves the view,
which is the model's reading (log 13); a number that is the own or none is refused where addressed, and ignored to all. In
the start sequence a FORGET to all acts and an addressed one is taken for presence alone: the model's reading (log 14), and
so is that a pass names the entry at the head, also where another ask is outstanding (log 15); the mark of a pass is the
model's own (log 24). -/
def Obligations.DeparturesEmptyTheEntry : Prop :=
  ∀ (s : State) (src p : Station) (dst number : Byte) (w : State), s.power ≠ .off → src ≠ s.own →
    w = { s with
      line := { s.line with idle := true, lastSender := src }
      peers := s.peers.set src (if (s.peer src).presence = .absent then
        { absentPeer with presence := .fresh, age := some 3000 }
        else { s.peer src with presence := .fresh, age := some 3000 }) } →
    (∃ t, exec (.rxLeave src dst) s = .next t ∧ ∃ u,
      HandedOn { s with
        line := { s.line with idle := true, lastSender := src }, peers := s.peers.set src absentPeer } u ∧
      ViewTaken (s.lift.view.filter fun e => decide (e.station ≠ src)) u t) ∧
    (number.toNat = p.val → p ≠ s.own → 16 ≤ dst.toNat →
      ∃ t, exec (.rxForget src dst number) s = .next t ∧ ∃ u,
        HandedOn { w with peers := w.peers.set p absentPeer } u ∧
        ViewTaken (s.lift.view.filter fun e => decide (e.station ≠ p)) u t) ∧
    (number.toNat = p.val → p ≠ s.own → dst.toNat = s.own.val → s.power = .running → ∃ u,
      HandedOn { w with peers := w.peers.set p absentPeer } u ∧
      exec (.rxForget src dst number) s = .next (u.enqueue (.answer src 20#8 .taken))) ∧
    (number.toNat = s.own.val ∨ 16 ≤ number.toNat →
      (dst.toNat ≠ s.own.val → exec (.rxForget src dst number) s = .next (s.heardFrom src)) ∧
      (dst.toNat = s.own.val → s.power = .running → exec (.rxForget src dst number) s =
        .next ((s.heardFrom src).enqueue (.answer src 20#8 .refusedRange)))) ∧
    (dst.toNat < 16 → dst.toNat ≠ s.own.val ∨ s.power = .starting →
      exec (.rxForget src dst number) s = .next (s.heardFrom src))

/-- ASK, DONE and DROP from a peer (R121 to R123): ASK appends its source to the view, or renumbers it in place; DONE takes
out the entry of its source under that number, and DROP the entry it names where that is the head; a DONE or DROP that finds
no such entry is taken for presence alone. The change of the view acts by R125. That a pass names the entry at the head,
also where another ask is outstanding, is the model's reading (log 15), and the mark of a pass is the model's own (log 24).
-/
def Obligations.LiftFramesMoveTheView : Prop :=
  ∀ (s : State) (src h : Station) (dst ask flags holder : Byte), s.power ≠ .off → src ≠ s.own →
    (∃ t, exec (.rxAsk src dst ask) s = .next t ∧
      ViewTaken (if s.lift.view.any (fun e => decide (e.station = src)) then
          s.lift.view.map (fun e => if e.station = src then ⟨src, ask⟩ else e)
        else s.lift.view ++ [⟨src, ask⟩]) (s.heardFrom src) t) ∧
    (⟨src, ask⟩ ∈ s.lift.view → ∃ t, exec (.rxDone src dst ask flags) s = .next t ∧
      ViewTaken (s.lift.view.erase ⟨src, ask⟩) (s.heardFrom src) t) ∧
    (⟨src, ask⟩ ∉ s.lift.view → exec (.rxDone src dst ask flags) s = .next (s.heardFrom src)) ∧
    (holder.toNat = h.val → s.lift.view.head? = some ⟨h, ask⟩ → h ≠ s.own →
      ∃ t, exec (.rxDrop src dst holder ask) s = .next t ∧ ViewTaken s.lift.view.tail (s.heardFrom src) t) ∧
    (16 ≤ holder.toNat ∨ (holder.toNat = h.val ∧ s.lift.view.head? ≠ some ⟨h, ask⟩) →
      exec (.rxDrop src dst holder ask) s = .next (s.heardFrom src))

/-- A DROP of the own entry, by a peer's frame or the own echo (R9, R31, R131): the entry leaves the view, and the head
changes (R125), so the head-hold timer restarts for the next head or stops with an empty view, and the mark is NONE. In
LIFT_WAIT the station asks again, or defers the ask under a hard hold, without LIFT_LATE; in OPENING and DEMOULD LIFT_LATE is
set and raised; in any other state the cycle is not touched but for the mark of a pass, which goes with the entry (log 24).
Nothing else changes but what queueing takes, and SHARE carries the position NONE (R99). That the frame of the own echo has
left the queue when its echo acts is the model's choice (log 30). -/
def Obligations.OwnDropIsTaken : Prop :=
  ∀ (s : State) (src : Station) (dst holder ask : Byte) (k : Nat) (c : Instr) (u : State) (l : Lift),
    s.power ≠ .off → src ≠ s.own → holder.toNat = s.own.val →
    (c = .rxDrop src dst holder ask ∧ u = s.heardFrom src) ∨
      (c = .echoTaken ∧ inFlightOf s.line.queue = some ⟨.drop s.own ask, k, true⟩ ∧ u = s.echoed) →
    s.lift.view.head? = some ⟨s.own, ask⟩ → (∀ e ∈ s.lift.view.tail, e.station ≠ s.own) →
    l = { s.lift with
      view := s.lift.view.tail, overdue := false
      headTimer := if s.lift.view.tail = [] then none else some (s.cfg.tHold * 1000) } →
    ∃ t, exec c s = .next t ∧
      (s.cycle.st = .liftWait → s.hold ≠ .hard →
        t.cycle = { s.cycle with passed := none, deferred := false } ∧ AskMade l t ∧
        (u.line.queue.length + 2 ≤ 12 → t.lift.outstanding = some (s.lift.ownAsk + 1#8) ∧
          newEntry (.ask (s.lift.ownAsk + 1#8)) ∈ t.line.queue)) ∧
      (s.cycle.st = .liftWait → s.hold = .hard →
        t.cycle = { s.cycle with passed := none, deferred := true } ∧ t.lift = l) ∧
      (s.cycle.st = .opening ∨ s.cycle.st = .demould → t.lift = l ∧
        t.cycle = { s.cycle with passed := none, reasons := { s.cycle.reasons with liftLate := true } }) ∧
      (s.cycle.st ≠ .liftWait → s.cycle.st ≠ .opening → s.cycle.st ≠ .demould → t.lift = l ∧
        t.cycle = { s.cycle with passed := none }) ∧
      Raised (if s.cycle.st = .opening ∨ s.cycle.st = .demould then [.liftLate] else []) u t ∧
      (s.cfg.liftUsed = true → s.mode ≠ .cold → u.room 3 → t.ShareWaits) ∧
      t = { u with
        lift := t.lift, cycle := t.cycle, line := { u.line with queue := t.line.queue }
        hist := { u.hist with reply := t.hist.reply, piece := t.hist.piece }, attn := t.attn }

/-- The timers of the Share Unit and of the Lift Queue: the listen period ends (R102); SHARE is queued as the station stands
(R99, R100), its lift position HOLDING while the own entry is head, WAITING while it stands behind, and NONE without one or
where the lift is not used (R130, R135); the STARVED condition becomes true and is raised (R98); at the expiry of the
head-hold timer a station that may send it queues DROP for the head, and any other marks it OVERDUE (R126); at the expiry of
the re-ask timer the ask is queued again under its number in LIFT_WAIT, deferred under a hard hold, and given up outside it
(R129). An expiry of a stopped timer does nothing, which is the model's reading (log 3). -/
def Obligations.ShareAndLiftTimersExpire : Prop :=
  ∀ (s : State) (n : Byte),
    (s.cfg.liftUsed = false ∨ (∀ e ∈ s.lift.view, e.station ≠ s.own) → s.ownPos = .away) ∧
    (s.cfg.liftUsed = true → s.lift.view.head? = some ⟨s.own, n⟩ → s.ownPos = .holding n) ∧
    (s.cfg.liftUsed = true → ⟨s.own, n⟩ ∈ s.lift.view → (∀ e ∈ s.lift.view, e.station = s.own → e = ⟨s.own, n⟩) →
      s.lift.view.head? ≠ some ⟨s.own, n⟩ → s.ownPos = .waiting n) ∧
    exec .listenTimer s = .next { s with share := { s.share with listen := none } } ∧
    (s.share.shareTimer = none ∨ s.mode = .cold → exec .shareTimer s = .next s) ∧
    (s.share.shareTimer.isSome = true → s.mode ≠ .cold → ∃ t, exec .shareTimer s = .next t ∧
      t = { s with
        line := { s.line with queue := t.line.queue }
        hist := { s.hist with reply := t.hist.reply, piece := t.hist.piece } } ∧
      (s.line.queue.length < 12 → t.hist = s.hist ∧ ∃ e ∈ t.line.queue, e.inFlight = false ∧ e.msg =
        .share s.share.claim s.share.ceiling s.cfg.budget s.share.starved s.mode s.cycle.st s.ownPos)) ∧
    (s.share.starveTimer = none → exec .starveTimer s = .next s) ∧
    (s.share.starveTimer.isSome = true → ∃ t, exec .starveTimer s = .next t ∧ Raised [.starved] s t ∧
      t = { s with
        share := { s.share with starveTimer := none, starvedCond := true }
        attn := { s.attn with raw := t.attn.raw }, line := { s.line with queue := t.line.queue } }) ∧
    (s.lift.headTimer = none → exec .headHoldTimer s = .next s) ∧
    (s.lift.headTimer.isSome = true → s.lift.view = [] →
      exec .headHoldTimer s = .next { s with lift := { s.lift with headTimer := none } }) ∧
    (∀ e ∈ s.lift.view.head?, s.lift.headTimer.isSome = true →
      (s.mode = .cold ∨ s.cfg.liftUsed = false ∨ s.cfg.good = false → exec .headHoldTimer s =
        .next { s with lift := { s.lift with headTimer := none, overdue := true } }) ∧
      (s.mode ≠ .cold → s.cfg.liftUsed = true → s.cfg.good = true → ∃ t, exec .headHoldTimer s = .next t ∧
        t = { s with
          lift := { s.lift with headTimer := none }, line := { s.line with queue := t.line.queue }
          hist := { s.hist with reply := t.hist.reply, piece := t.hist.piece } } ∧
        (s.line.queue.length < 12 →
          t.line.queue = s.line.queue ++ [newEntry (.drop e.station e.ask)] ∧ t.hist = s.hist))) ∧
    (s.lift.reAsk = none → exec .reAskTimer s = .next s) ∧
    (s.lift.reAsk = some n →
      (s.cycle.st ≠ .liftWait → exec .reAskTimer s = .next { s with lift := { s.lift with reAsk := none } }) ∧
      (s.cycle.st = .liftWait → s.hold = .hard → exec .reAskTimer s =
        .next { s with lift := { s.lift with reAsk := none }, cycle := { s.cycle with deferred := true } }) ∧
      (s.cycle.st = .liftWait → s.hold ≠ .hard → ∃ t, exec .reAskTimer s = .next t ∧
        t = { s with
          lift := t.lift, cycle := { s.cycle with deferred := false }
          line := { s.line with queue := t.line.queue }
          hist := { s.hist with reply := t.hist.reply, piece := t.hist.piece } } ∧
        (t.lift = { s.lift with reAsk := none, outstanding := some n } ∧ newEntry (.ask n) ∈ t.line.queue ∨
          t.lift = { s.lift with reAsk := some n, outstanding := none } ∧ 12 ≤ t.line.queue.length) ∧
        (s.line.queue.length < 12 → t.line.queue = s.line.queue ++ [newEntry (.ask n)] ∧ t.hist = s.hist ∧
          t.lift = { s.lift with reAsk := none, outstanding := some n })))

/-! ### The history store and the reports (R139 to R153, R171) -/

/-- HGET addressed to this station (R150, R151): HBUSY while a reply is under way; else the record of the serial asked for,
or the oldest, goes into the reply buffer and its first piece is offered; else HNONE, IN_CYCLE for the reserved serial,
EMPTY for an empty store and UNKNOWN otherwise; an undefined selector names no record. The store itself stays. The bytes
of a record are those of R198, 38 and three for each ply, total and plies in three bytes as they stand (log 35). HTAKE
discards the record of its serial and is not answered (R153). Addressed elsewhere both are taken for presence alone. -/
def Obligations.CollectionServesTheStore : Prop :=
  ∀ (s : State) (src : Station) (dst sel : Byte) (n : Wide) (h : State), s.power = .running → src ≠ s.own →
    h = s.heardFrom src →
    (∀ r : PartRecord, r.bytes = recordBytes r) ∧
    (dst.toNat ≠ s.own.val →
      exec (.rxHget src dst sel n) s = .next h ∧ exec (.rxHtake src dst n) s = .next h) ∧
    (dst.toNat = s.own.val →
      (h.hist.reply.isSome = true → exec (.rxHget src dst sel n) s = .next (h.enqueue (.hbusy src))) ∧
      (h.hist.reply = none → sel = 1#8 → s.hist.reserved = some n.toNat →
        exec (.rxHget src dst sel n) s = .next (h.enqueue (.hnone src .inCycle))) ∧
      (h.hist.reply = none → sel = 1#8 → s.hist.reserved ≠ some n.toNat →
        (∀ r ∈ s.hist.stored, r.serial ≠ n.toNat) → exec (.rxHget src dst sel n) s =
          .next (h.enqueue (.hnone src (if s.hist.stored = [] then .emptyStore else .unknown)))) ∧
      (h.hist.reply = none → sel = 0#8 → s.hist.stored = [] →
        exec (.rxHget src dst sel n) s = .next (h.enqueue (.hnone src .emptyStore))) ∧
      (h.hist.reply = none → 2 ≤ sel.toNat → exec (.rxHget src dst sel n) s =
        .next (h.enqueue (.hnone src (if s.hist.stored = [] then .emptyStore else .unknown)))) ∧
      (h.hist.reply = none → h.hist.piece = none → (sel = 1#8 ∧ s.hist.reserved ≠ some n.toNat ∧
          ∃ r ∈ s.hist.stored, r.serial = n.toNat) ∨ (sel = 0#8 ∧ s.hist.stored ≠ []) →
        ∃ t, exec (.rxHget src dst sel n) s = .next t ∧ ∃ r ∈ s.hist.stored,
          (sel = 1#8 → r.serial = n.toNat) ∧ (sel = 0#8 → ∀ q ∈ s.hist.stored, r.serial ≤ q.serial) ∧
          t = { h with
            hist := { h.hist with reply := t.hist.reply, piece := t.hist.piece }
            line := { h.line with queue := t.line.queue } } ∧
          (h.room 1 → t.hist.piece = some 0 ∧
            t.line.queue = h.line.queue ++ [newEntry (.hdata src (BitVec.ofNat 16 r.serial) 0
              ((38 + 3 * r.plies.length + 8) / 9) (r.bytes.take 9))] ∧
            t.hist.reply = some ⟨r.bytes, BitVec.ofNat 16 r.serial, src, (38 + 3 * r.plies.length + 8) / 9, 1⟩) ∧
          (¬h.room 1 → t.line = h.line ∧ t.hist.piece = none ∧
            t.hist.reply = some ⟨r.bytes, BitVec.ofNat 16 r.serial, src, (38 + 3 * r.plies.length + 8) / 9, 0⟩)) ∧
      (∃ t, exec (.rxHtake src dst n) s = .next t ∧
        t = { h with hist := { h.hist with stored := t.hist.stored } } ∧
        ((∀ r ∈ s.hist.stored, r.serial ≠ n.toNat) → t.hist.stored = s.hist.stored) ∧
        (∀ r ∈ s.hist.stored, r.serial = n.toNat → (s.hist.stored.map (·.serial)).Nodup →
          t.hist.stored = s.hist.stored.erase r)))

/-- The next piece (R148, R151): offered where a reply waits with pieces left, none of its own is in the queue, and a class 3
entry is free; else nothing happens. That the command makes the offer beside the events of R151 and R152 is the model's
choice (log 22). -/
def Obligations.PieceIsOffered : Prop :=
  ∀ (s : State),
    (s.hist.reply = none ∨ s.hist.piece.isSome = true ∨ ¬s.room 1 → exec .hdataPieceOffer s = .next s) ∧
    (∀ r ∈ s.hist.reply, s.hist.piece = none → r.next < r.count → s.room 1 → ∃ t data,
      exec .hdataPieceOffer s = .next t ∧ data.length = 9 ∧
      (∀ i : Nat, i < 9 → data.getD i 0#8 = r.bytes.getD (9 * r.next + i) 0#8) ∧
      t = { s with
        hist := { s.hist with piece := some r.next, reply := some { r with next := r.next + 1 } }
        line := { s.line with
          queue := s.line.queue ++ [newEntry (.hdata r.dst r.serialLow r.next r.count data)] } })

/-- QUERY addressed to this station queues REPORT to its sender where there is room, with the fields as they stand (R171,
R197); to another station or to all it is taken for presence alone. -/
def Obligations.QueryIsReported : Prop :=
  ∀ (s : State) (src : Station) (dst : Byte) (h : State), s.power = .running → src ≠ s.own → h = s.heardFrom src →
    (dst.toNat ≠ s.own.val → exec (.rxQuery src dst) s = .next h) ∧
    (dst.toNat = s.own.val → ¬h.room 1 → exec (.rxQuery src dst) s = .next h) ∧
    (dst.toNat = s.own.val → h.room 1 → ∃ t b0 b1 b2 b3 b4 b5, exec (.rxQuery src dst) s = .next t ∧
      t = { h with line := { h.line with
        queue := h.line.queue ++ [newEntry (.report src ([b0, b1, b2, b3, b4, b5] ++
          [BitVec.ofNat 8 (h.share.claim / 256), BitVec.ofNat 8 h.share.claim,
            (h.attn.raw >>> 8).setWidth 8, h.attn.raw.setWidth 8,
            BitVec.ofNat 8 h.hist.stored.length, BitVec.ofNat 8 h.hist.free]))] } } ∧
      b0.toNat % 4 = modeCode h.mode ∧ b0.getLsbD 2 = h.share.starved ∧ b0.getLsbD 3 = h.weigh.staged.isSome ∧
      b0.toNat / 16 = blockerCode h.cycle.blocker ∧ b1.toNat = cycleCode h.cycle.st ∧
      b2.toNat % 8 = buildCode h.weigh.build.state ∧
      (h.weigh.build.plies.length ≤ 24 → b2.toNat / 8 = h.weigh.build.plies.length) ∧
      (-8388608 ≤ h.weigh.latest - h.weigh.tare → h.weigh.latest - h.weigh.tare < 8388608 →
        (b3 ++ b4 ++ b5).toInt = h.weigh.latest - h.weigh.tare))

/-! ### Sending, echoes and the line (R90, R116, R158 to R166) -/

/-- An own access slot on an idle line with no frame in flight sends the waiting entry of the lowest class, the oldest of
it, which goes in flight at its place; slot k is own where k mod 16 equals own number less last sender less 1 mod 16
(R160, R165). In any other case nothing is sent. -/
def Obligations.AccessSlotSendsLowestClass : Prop :=
  ∀ (s : State) (k : Nat), s.power = .running →
    (s.line.idle = false ∨ k % 16 ≠ (s.own.val + 31 - s.line.lastSender.val) % 16 ∨
        (∃ e ∈ s.line.queue, e.inFlight = true) ∨ s.line.queue = [] → exec (.accessSlot k) s = .next s) ∧
    (s.line.idle = true → k % 16 = (s.own.val + 31 - s.line.lastSender.val) % 16 →
      (∀ e ∈ s.line.queue, e.inFlight = false) → s.line.queue ≠ [] →
      ∃ t before e after, exec (.accessSlot k) s = .next t ∧
        t = { s with line := { s.line with idle := false, queue := before ++ { e with inFlight := true } :: after } } ∧
        s.line.queue = before ++ e :: after ∧ (∀ x ∈ s.line.queue, e.msg.cls ≤ x.msg.cls) ∧
        (∀ x ∈ before, e.msg.cls < x.msg.cls))

/-- The line's other activity (R116, R158, R160, R161): an intact frame with the own source, of any kind, sets the slot
reference with the own number, raises STATION_CONFLICT and acts nowhere; activity of others stops the slot count; failed
activity sets 15 as the last sender, and where it formed a frame it counts up to 255 and raises LINE_ERRORS at each
multiple of 16 it reaches. Without supply nothing is heard. That activity which formed no frame is not counted (log 17), one
of more bytes than its header announces among it (log 41), and that a frame of any kind with the own source is the conflict
frame (log 33), are the model's readings. -/
def Obligations.LineActivityIsJudged : Prop :=
  ∀ (s : State) (src : Station) (dst : Byte) (h1 h2 h3 : Half) (w : Wide) (b1 b2 b3 b4 : Byte) (data : Vector Byte 9)
    (payload : Vector Byte 12),
    (∀ c ∈ [Instr.rxShare src dst h1 h2 h3 b1 b2 b3 b4, .rxRaise src dst h1, .rxLeave src dst, .rxAsk src dst b1,
        .rxDone src dst b1 b2, .rxDrop src dst b1 b2, .rxPart src dst h1 w b1, .rxHget src dst b1 w,
        .rxHdata src dst h1 b1 data, .rxHtake src dst w, .rxHnone src dst b1, .rxHbusy src dst, .rxWake src dst b1,
        .rxRest src dst b1, .rxHold src dst b1, .rxRelease src dst, .rxClear src dst, .rxSelect src dst b1,
        .rxQuery src dst, .rxReport src dst payload, .rxForget src dst b1, .rxAlert src dst b1,
        .rxTrip src dst b1 b2, .rxAnswer src dst b1 b2, .conflictFrame],
      (s.power = .off → exec c s = .next s) ∧
      (s.power ≠ .off → src = s.own → ∃ t, exec c s = .next t ∧ Raised [.stationConflict] s t ∧
        t.line.idle = true ∧ t.line.lastSender = s.own ∧ t.line.errors = s.line.errors ∧
        t = { s with line := t.line, attn := { s.attn with raw := t.attn.raw } })) ∧
    (s.power = .off → exec .lineActivityStart s = .next s ∧ exec (.lineActivityFailed true) s = .next s ∧
      exec (.lineActivityFailed false) s = .next s) ∧
    (s.power ≠ .off →
      exec .lineActivityStart s = .next { s with line := { s.line with idle := false } } ∧
      exec (.lineActivityFailed false) s = .next { s with line := { s.line with idle := true, lastSender := 15 } } ∧
      ∃ t, exec (.lineActivityFailed true) s = .next t ∧
        t.line.errors = min 255 (s.line.errors + 1) ∧ t.line.idle = true ∧ t.line.lastSender = 15 ∧
        Raised (if s.line.errors < 255 ∧ (s.line.errors + 1) % 16 = 0 then [.lineErrors] else []) s t ∧
        (255 ≤ s.line.errors ∨ (s.line.errors + 1) % 16 ≠ 0 → t = { s with line := t.line } ∧
          t.line.queue = s.line.queue) ∧
        t = { s with line := t.line, attn := { s.attn with raw := t.attn.raw } })

/-- The own echo taken intact removes the entry in flight and sets the slot reference with the own number (R161, R162): that
of SHARE or TRIP does no more, and that of a class 3 message lets the reply go on (R151, R152). That of RAISE, with none
waiting behind it, commits the pending raise in STANDBY and RUN (R90): the claim becomes what was asked for, limited by what
the budget leaves beside the raise claims counted for the peers; below it the station is starved, with the starve timer and
the STARVED condition following (R97, R98), and a claim that fell rescales the duties; with no raise pending, or in COLD and
TRIPPED, nothing is committed. With a newer RAISE waiting, the echo is that of an older one and commits nothing (R90), told
apart so by the model's reading (log 23). That the entry has left when the echo acts is log 30, and that without a frame in
flight nothing happens is log 3. -/
def Obligations.EchoTakenActs : Prop :=
  ∀ (s : State) (e : Entry) (q n k : Nat),
    (inFlightOf s.line.queue = none → exec .echoTaken s = .next s) ∧
    (inFlightOf s.line.queue = some e →
      (e.msg.isShare = true ∨ e.msg.cls = 0 → exec .echoTaken s = .next s.echoed) ∧
      (e.msg.cls = 3 → ∃ t, exec .echoTaken s = .next t ∧ ReplyGoesOn e.msg s.echoed t)) ∧
    s.echoed.line.queue = s.line.queue.filter (fun x => !x.inFlight) ∧
    (inFlightOf s.line.queue = some ⟨.raise n, k, true⟩ →
      (∃ e ∈ s.line.queue, e.msg.isRaise = true ∧ e.inFlight = false) → exec .echoTaken s = .next s.echoed) ∧
    (inFlightOf s.line.queue = some ⟨.raise n, k, true⟩ →
      (∀ e ∈ s.line.queue, e.msg.isRaise = true → e.inFlight = true) →
      (s.share.raising = none ∨ s.mode = .cold ∨ s.mode = .tripped → exec .echoTaken s = .next s.echoed) ∧
      (s.share.raising = some q → s.mode = .standby ∨ s.mode = .run → ∃ t, exec .echoTaken s = .next t ∧
        t.share.claim = min q (s.share.bEff - s.oRaise) ∧ t.share.raising = none ∧
        t.share.starved = decide (s.share.bEff - s.oRaise < q) ∧
        (s.share.claim ≤ t.share.claim → t.zu = s.zu) ∧
        (t.share.claim < s.share.claim → ∀ z, (t.zone z).duty =
          if (s.zoneCfg z).enabled then
            (if s.share.load ≤ 20000 * t.share.claim then (s.zone z).d
              else (s.zone z).d * (20000 * t.share.claim) / s.share.load) else 0) ∧
        (∀ z, t.zone z = { s.zone z with duty := (t.zone z).duty }) ∧
        t.share = { s.share.starvedAs (decide (s.share.bEff - s.oRaise < q)) with
          claim := t.share.claim, raising := none
          curtailed := if s.share.claim ≤ t.share.claim then s.share.curtailed
            else zoneIds.any fun z => decide ((t.zone z).duty < (s.zone z).d) } ∧
        t = { s with
          zu := { s.zu with table := t.zu.table }, share := t.share
          line := { s.echoed.line with queue := t.line.queue }
          hist := { s.hist with reply := t.hist.reply, piece := t.hist.piece } } ∧
        (s.echoed.line.queue.length < 12 → t.ShareWaits)))

/-- The echoes of the own lift frames and of LEAVE act on the own view like any station's (R121 to R124, R128): the echo of
ASK also ends its outstanding number. Where DONE or LEAVE has taken the own entry out, an ask deferred in LIFT_WAIT is made
(R15, R132), unless a hard hold is still in force, as at the DONE of a pass, whose echo leaves the ask deferred (R16). That
the ask is made behind an own entry which was not passed too is the model's reading (log 37), and that the frame has left
the queue when its echo acts is the model's choice (log 30). A pass names the entry at the head, also where another ask is
outstanding (log 15), and the mark of a pass, the model's own, goes with the own entry (log 24). -/
def Obligations.OwnLiftEchoesMoveTheView : Prop :=
  ∀ (s : State) (m : Msg) (n : Byte) (w : Bool) (h : Station) (k : Nat) (v : List LiftEntry),
    (inFlightOf s.line.queue = some ⟨.ask n, k, true⟩ → ∃ t, exec .echoTaken s = .next t ∧
      ViewTaken (if s.lift.view.any (fun e => decide (e.station = s.own)) then
          s.lift.view.map (fun e => if e.station = s.own then ⟨s.own, n⟩ else e)
        else s.lift.view ++ [⟨s.own, n⟩])
        { s.echoed with lift := { s.lift with
          outstanding := if s.lift.outstanding = some n then none else s.lift.outstanding } } t) ∧
    (inFlightOf s.line.queue = some ⟨.done n w, k, true⟩ →
      (⟨s.own, n⟩ ∉ s.lift.view → exec .echoTaken s = .next s.echoed) ∧
      (⟨s.own, n⟩ ∈ s.lift.view → s.cycle.st ≠ .liftWait →
        ∃ t, exec .echoTaken s = .next t ∧ ViewTaken (s.lift.view.erase ⟨s.own, n⟩) s.echoed t)) ∧
    (inFlightOf s.line.queue = some ⟨m, k, true⟩ →
      (m = .done n w ∧ ⟨s.own, n⟩ ∈ s.lift.view ∧ v = s.lift.view.erase ⟨s.own, n⟩) ∨
        (m = .leave ∧ v = s.lift.view.filter fun e => decide (e.station ≠ s.own)) →
      (∀ e ∈ v, e.station ≠ s.own) →
      (s.cycle.deferred = false ∨ s.cycle.st ≠ .liftWait ∨ s.hold = .hard ∨ s.ownEntry = none →
        ∃ t, exec .echoTaken s = .next t ∧ ViewTaken v s.echoed t ∧
          t.lines = s.lines ∧ t.cycle = { s.cycle with passed := none }) ∧
      (s.cycle.deferred = true → s.cycle.st = .liftWait → s.hold ≠ .hard → s.ownEntry.isSome = true →
        ∃ t, exec .echoTaken s = .next t ∧ t.lines = s.lines ∧
          t.cycle = { s.cycle with passed := none, deferred := false } ∧
          AskMade { s.lift with
            view := v, overdue := if v.head? = s.lift.view.head? then s.lift.overdue else false
            headTimer := if v.head? = s.lift.view.head? then s.lift.headTimer
              else if v = [] then none else some (s.cfg.tHold * 1000) } t ∧
          t = { s.echoed with
            cycle := t.cycle, lift := t.lift, line := { s.echoed.line with queue := t.line.queue }
            hist := { s.hist with reply := t.hist.reply, piece := t.hist.piece } } ∧
          (s.echoed.line.queue.length + 2 ≤ 12 → t.lift.outstanding = some (s.lift.ownAsk + 1#8) ∧
            newEntry (.ask (s.lift.ownAsk + 1#8)) ∈ t.line.queue))) ∧
    (inFlightOf s.line.queue = some ⟨.drop h n, k, true⟩ →
      (s.lift.view.head? ≠ some ⟨h, n⟩ → exec .echoTaken s = .next s.echoed) ∧
      (s.lift.view.head? = some ⟨h, n⟩ → h ≠ s.own → ∃ t, exec .echoTaken s = .next t ∧
        ViewTaken s.lift.view.tail s.echoed t))

/-- A failed echo (R116, R158, R162, R163, R166): a damaged one counts a receive error, raising LINE_ERRORS at a multiple of
16, and sets 15 as the last sender; one that differs raises STATION_CONFLICT and sets its source. Then the entry, in either
case: it is removed where a newer one of its coalescing kind waits; it goes back to its place with its attempts counted
before the third; and at the third it is dropped: a RAISE is abandoned (R91), an ASK taken up again later (R129), a DROP
queued again while its head stands (R127), a class 3 message lets the reply go on (R151, R152), and any other is lost. The
model's readings: a differing frame of any source as a conflict frame (log 16), an echo that formed no frame as a damaged
one (log 40), the order of raise and judgment (log 18), the drop of an ASK that is not outstanding (log 32), and no effect
without a frame in flight (log 3). -/
def Obligations.FailedEchoResendsOrDrops : Prop :=
  ∀ (s : State) (heard : EchoHeard) (e : Entry) (b : State) (rest : List Entry),
    (inFlightOf s.line.queue = none → exec (.echoFailed heard) s = .next s) ∧
    (inFlightOf s.line.queue = some e →
      b = (match heard with
        | .damaged =>
          if s.line.errors < 255 ∧ (s.line.errors + 1) % 16 = 0 then
            { s with line := { s.line with
              idle := true, lastSender := 15, errors := s.line.errors + 1 } }.raiseKind .lineErrors
          else { s with line := { s.line with
            idle := true, lastSender := 15, errors := min 255 (s.line.errors + 1) } }
        | .differs src =>
          { s with line := { s.line with idle := true, lastSender := src } }.raiseKind .stationConflict) →
      rest = b.line.queue.filter (fun x => !x.inFlight) →
      ((∃ x ∈ s.line.queue, x.inFlight = false ∧ x.msg.coalesces e.msg = true) →
        exec (.echoFailed heard) s = .next { b with line := { b.line with queue := rest } }) ∧
      ((∀ x ∈ s.line.queue, x.inFlight = false → x.msg.coalesces e.msg = false) → e.attempts + 1 < 3 →
        exec (.echoFailed heard) s = .next { b with line := { b.line with queue := b.line.queue.map fun x =>
          if x.inFlight then { x with attempts := x.attempts + 1, inFlight := false } else x } }) ∧
      ((∀ x ∈ s.line.queue, x.inFlight = false → x.msg.coalesces e.msg = false) → 3 ≤ e.attempts + 1 →
        (e.msg.isRaise = true → exec (.echoFailed heard) s = .next { b with
          line := { b.line with queue := rest }, share := { s.share with raising := none } }) ∧
        (∀ n : Byte, e.msg = .ask n → exec (.echoFailed heard) s = .next { b with
          line := { b.line with queue := rest }
          lift := { s.lift with
            reAsk := some n, outstanding := if s.lift.outstanding = some n then none else s.lift.outstanding } }) ∧
        (∀ (h : Station) (n : Byte), e.msg = .drop h n → s.line.queue.length ≤ 12 →
          exec (.echoFailed heard) s = .next { b with line := { b.line with queue := rest ++
            (if s.lift.view.head? = some ⟨h, n⟩ then [newEntry (.drop h n)] else []) } }) ∧
        (e.msg.cls = 3 → ∃ t, exec (.echoFailed heard) s = .next t ∧
          ReplyGoesOn e.msg { b with line := { b.line with queue := rest } } t) ∧
        (e.msg.isShare = true ∨ e.msg = .leave ∨ e.msg.cls = 0 ∨ (∃ n w, e.msg = .done n w) →
          exec (.echoFailed heard) s = .next { b with line := { b.line with queue := rest } })))
end

