-- ==== Sys2Proof/Laws/Bytes.lean ====
section
/-! SUPPORT. The bytes of multi-byte fields, one by one, and the fields that bytes of the configuration block carry. -/

namespace Sys2Proof.Machine

/-- Two bytes, high byte first (R196). -/
theorem beBytes_two (n : Nat) : beBytes 2 n = [.ofNat 8 (n / 256), .ofNat 8 n] := by simp [beBytes]

/-- Four bytes, high byte first (R196). -/
theorem beBytes_four (n : Nat) :
    beBytes 4 n = [.ofNat 8 (n / 16777216), .ofNat 8 (n / 65536), .ofNat 8 (n / 256), .ofNat 8 n] := by
  simp [beBytes]

/-- A byte is that of an integer where the residues agree. -/
theorem ofNat_eq_ofInt (n : Nat) (x : Int) (h : (n : Int) % 256 = x % 256) : BitVec.ofNat 8 n = BitVec.ofInt 8 x := by
  apply BitVec.eq_of_toNat_eq
  rw [BitVec.toNat_ofNat, BitVec.toNat_ofInt]
  simp only [Nat.reducePow]
  omega

/-- Two bytes in two's complement, high byte first (R196). -/
theorem beBytesInt_two (x : Int) : beBytesInt 2 x = [.ofInt 8 (x / 256), .ofInt 8 x] := by
  simp only [beBytesInt, beBytes_two]
  exact List.cons_eq_cons.2 ⟨ofNat_eq_ofInt _ _ (by omega), List.cons_eq_cons.2 ⟨ofNat_eq_ofInt _ _ (by omega), rfl⟩⟩

/-- Three bytes in two's complement, high byte first (R196). -/
theorem beBytesInt_three (x : Int) :
    beBytesInt 3 x = [.ofInt 8 (x / 65536), .ofInt 8 (x / 256), .ofInt 8 x] := by
  simp only [beBytesInt, beBytes, Nat.pow_zero, Nat.div_one]
  exact List.cons_eq_cons.2 ⟨ofNat_eq_ofInt _ _ (by omega), List.cons_eq_cons.2 ⟨ofNat_eq_ofInt _ _ (by omega),
    List.cons_eq_cons.2 ⟨ofNat_eq_ofInt _ _ (by omega), rfl⟩⟩⟩

/-- A byte within the block. -/
theorem blockByte_eq (bs : List Byte) (i : Nat) (h : i < bs.length) : blockByte bs i = bs[i].toNat := by
  simp [blockByte, List.getD_eq_getElem?_getD, h]

/-- A two-byte field that lies within the block (R196). -/
theorem blockNat_two (bs : List Byte) (i : Nat) (h : i + 1 < bs.length) :
    blockNat bs i 2 = 256 * blockByte bs i + blockByte bs (i + 1) := by
  have e : (bs.drop i).take 2 = [bs[i], bs[i + 1]] := by
    rw [List.drop_eq_getElem_cons (by omega), List.drop_eq_getElem_cons h]; rfl
  rw [blockNat, e, blockByte_eq bs i (by omega), blockByte_eq bs _ h]
  simp only [beNat, List.foldl]
  omega

/-- A three-byte field that lies within the block (R196). -/
theorem blockNat_three (bs : List Byte) (i : Nat) (h : i + 2 < bs.length) :
    blockNat bs i 3 = 256 * (256 * blockByte bs i + blockByte bs (i + 1)) + blockByte bs (i + 2) := by
  have e : (bs.drop i).take 3 = [bs[i], bs[i + 1], bs[i + 2]] := by
    rw [List.drop_eq_getElem_cons (by omega), List.drop_eq_getElem_cons (by omega), List.drop_eq_getElem_cons h]; rfl
  rw [blockNat, e, blockByte_eq bs i (by omega), blockByte_eq bs _ (by omega), blockByte_eq bs _ h]
  simp only [beNat, List.foldl]
  omega

end Sys2Proof.Machine
end

