-- ==== Sys2Proof/Laws/State.lean ====
section
/-! SUPPORT. The fields that each plain update of State leaves and the one it sets, one lemma for each. -/

namespace Sys2Proof.Machine

variable (s : State)

@[simp] theorem State.setZone_pending (z : ZoneId) (v : Zone) : (s.setZone z v).pending = s.pending := rfl
@[simp] theorem State.setZone_power (z : ZoneId) (v : Zone) : (s.setZone z v).power = s.power := rfl
@[simp] theorem State.setZone_own (z : ZoneId) (v : Zone) : (s.setZone z v).own = s.own := rfl
@[simp] theorem State.setZone_cfg (z : ZoneId) (v : Zone) : (s.setZone z v).cfg = s.cfg := rfl
@[simp] theorem State.setZone_cfgBus (z : ZoneId) (v : Zone) : (s.setZone z v).cfgBus = s.cfgBus := rfl
@[simp] theorem State.setZone_lines (z : ZoneId) (v : Zone) : (s.setZone z v).lines = s.lines := rfl
@[simp] theorem State.setZone_cycle (z : ZoneId) (v : Zone) : (s.setZone z v).cycle = s.cycle := rfl
@[simp] theorem State.setZone_weigh (z : ZoneId) (v : Zone) : (s.setZone z v).weigh = s.weigh := rfl
@[simp] theorem State.setZone_share (z : ZoneId) (v : Zone) : (s.setZone z v).share = s.share := rfl
@[simp] theorem State.setZone_peers (z : ZoneId) (v : Zone) : (s.setZone z v).peers = s.peers := rfl
@[simp] theorem State.setZone_lift (z : ZoneId) (v : Zone) : (s.setZone z v).lift = s.lift := rfl
@[simp] theorem State.setZone_hist (z : ZoneId) (v : Zone) : (s.setZone z v).hist = s.hist := rfl
@[simp] theorem State.setZone_line (z : ZoneId) (v : Zone) : (s.setZone z v).line = s.line := rfl
@[simp] theorem State.setZone_ml (z : ZoneId) (v : Zone) : (s.setZone z v).ml = s.ml := rfl
@[simp] theorem State.setZone_attn (z : ZoneId) (v : Zone) : (s.setZone z v).attn = s.attn := rfl
@[simp] theorem State.setZone_zu (z : ZoneId) (v : Zone) : (s.setZone z v).zu = { s.zu with table := s.zu.table.set z v } := rfl

@[simp] theorem State.mapZones_pending (f : ZoneId → Zone → Zone) : (s.mapZones f).pending = s.pending := rfl
@[simp] theorem State.mapZones_power (f : ZoneId → Zone → Zone) : (s.mapZones f).power = s.power := rfl
@[simp] theorem State.mapZones_own (f : ZoneId → Zone → Zone) : (s.mapZones f).own = s.own := rfl
@[simp] theorem State.mapZones_cfg (f : ZoneId → Zone → Zone) : (s.mapZones f).cfg = s.cfg := rfl
@[simp] theorem State.mapZones_cfgBus (f : ZoneId → Zone → Zone) : (s.mapZones f).cfgBus = s.cfgBus := rfl
@[simp] theorem State.mapZones_lines (f : ZoneId → Zone → Zone) : (s.mapZones f).lines = s.lines := rfl
@[simp] theorem State.mapZones_cycle (f : ZoneId → Zone → Zone) : (s.mapZones f).cycle = s.cycle := rfl
@[simp] theorem State.mapZones_weigh (f : ZoneId → Zone → Zone) : (s.mapZones f).weigh = s.weigh := rfl
@[simp] theorem State.mapZones_share (f : ZoneId → Zone → Zone) : (s.mapZones f).share = s.share := rfl
@[simp] theorem State.mapZones_peers (f : ZoneId → Zone → Zone) : (s.mapZones f).peers = s.peers := rfl
@[simp] theorem State.mapZones_lift (f : ZoneId → Zone → Zone) : (s.mapZones f).lift = s.lift := rfl
@[simp] theorem State.mapZones_hist (f : ZoneId → Zone → Zone) : (s.mapZones f).hist = s.hist := rfl
@[simp] theorem State.mapZones_line (f : ZoneId → Zone → Zone) : (s.mapZones f).line = s.line := rfl
@[simp] theorem State.mapZones_ml (f : ZoneId → Zone → Zone) : (s.mapZones f).ml = s.ml := rfl
@[simp] theorem State.mapZones_attn (f : ZoneId → Zone → Zone) : (s.mapZones f).attn = s.attn := rfl

@[simp] theorem State.setPeer_pending (p : Station) (v : Peer) : (s.setPeer p v).pending = s.pending := rfl
@[simp] theorem State.setPeer_power (p : Station) (v : Peer) : (s.setPeer p v).power = s.power := rfl
@[simp] theorem State.setPeer_own (p : Station) (v : Peer) : (s.setPeer p v).own = s.own := rfl
@[simp] theorem State.setPeer_cfg (p : Station) (v : Peer) : (s.setPeer p v).cfg = s.cfg := rfl
@[simp] theorem State.setPeer_cfgBus (p : Station) (v : Peer) : (s.setPeer p v).cfgBus = s.cfgBus := rfl
@[simp] theorem State.setPeer_lines (p : Station) (v : Peer) : (s.setPeer p v).lines = s.lines := rfl
@[simp] theorem State.setPeer_cycle (p : Station) (v : Peer) : (s.setPeer p v).cycle = s.cycle := rfl
@[simp] theorem State.setPeer_zu (p : Station) (v : Peer) : (s.setPeer p v).zu = s.zu := rfl
@[simp] theorem State.setPeer_weigh (p : Station) (v : Peer) : (s.setPeer p v).weigh = s.weigh := rfl
@[simp] theorem State.setPeer_share (p : Station) (v : Peer) : (s.setPeer p v).share = s.share := rfl
@[simp] theorem State.setPeer_lift (p : Station) (v : Peer) : (s.setPeer p v).lift = s.lift := rfl
@[simp] theorem State.setPeer_hist (p : Station) (v : Peer) : (s.setPeer p v).hist = s.hist := rfl
@[simp] theorem State.setPeer_line (p : Station) (v : Peer) : (s.setPeer p v).line = s.line := rfl
@[simp] theorem State.setPeer_ml (p : Station) (v : Peer) : (s.setPeer p v).ml = s.ml := rfl
@[simp] theorem State.setPeer_attn (p : Station) (v : Peer) : (s.setPeer p v).attn = s.attn := rfl
@[simp] theorem State.setPeer_peers (p : Station) (v : Peer) : (s.setPeer p v).peers = s.peers.set p v := rfl

@[simp] theorem State.append_pending (m : Msg) : (s.append m).pending = s.pending := rfl
@[simp] theorem State.append_power (m : Msg) : (s.append m).power = s.power := rfl
@[simp] theorem State.append_own (m : Msg) : (s.append m).own = s.own := rfl
@[simp] theorem State.append_cfg (m : Msg) : (s.append m).cfg = s.cfg := rfl
@[simp] theorem State.append_cfgBus (m : Msg) : (s.append m).cfgBus = s.cfgBus := rfl
@[simp] theorem State.append_lines (m : Msg) : (s.append m).lines = s.lines := rfl
@[simp] theorem State.append_cycle (m : Msg) : (s.append m).cycle = s.cycle := rfl
@[simp] theorem State.append_zu (m : Msg) : (s.append m).zu = s.zu := rfl
@[simp] theorem State.append_weigh (m : Msg) : (s.append m).weigh = s.weigh := rfl
@[simp] theorem State.append_share (m : Msg) : (s.append m).share = s.share := rfl
@[simp] theorem State.append_peers (m : Msg) : (s.append m).peers = s.peers := rfl
@[simp] theorem State.append_lift (m : Msg) : (s.append m).lift = s.lift := rfl
@[simp] theorem State.append_hist (m : Msg) : (s.append m).hist = s.hist := rfl
@[simp] theorem State.append_ml (m : Msg) : (s.append m).ml = s.ml := rfl
@[simp] theorem State.append_attn (m : Msg) : (s.append m).attn = s.attn := rfl
@[simp] theorem State.append_line (m : Msg) : (s.append m).line = { s.line with queue := s.line.queue ++ [newEntry m] } := rfl

@[simp] theorem State.setFlag_pending (k : Kind) : (s.setFlag k).pending = s.pending := rfl
@[simp] theorem State.setFlag_power (k : Kind) : (s.setFlag k).power = s.power := rfl
@[simp] theorem State.setFlag_own (k : Kind) : (s.setFlag k).own = s.own := rfl
@[simp] theorem State.setFlag_cfg (k : Kind) : (s.setFlag k).cfg = s.cfg := rfl
@[simp] theorem State.setFlag_cfgBus (k : Kind) : (s.setFlag k).cfgBus = s.cfgBus := rfl
@[simp] theorem State.setFlag_lines (k : Kind) : (s.setFlag k).lines = s.lines := rfl
@[simp] theorem State.setFlag_cycle (k : Kind) : (s.setFlag k).cycle = s.cycle := rfl
@[simp] theorem State.setFlag_zu (k : Kind) : (s.setFlag k).zu = s.zu := rfl
@[simp] theorem State.setFlag_weigh (k : Kind) : (s.setFlag k).weigh = s.weigh := rfl
@[simp] theorem State.setFlag_share (k : Kind) : (s.setFlag k).share = s.share := rfl
@[simp] theorem State.setFlag_peers (k : Kind) : (s.setFlag k).peers = s.peers := rfl
@[simp] theorem State.setFlag_lift (k : Kind) : (s.setFlag k).lift = s.lift := rfl
@[simp] theorem State.setFlag_hist (k : Kind) : (s.setFlag k).hist = s.hist := rfl
@[simp] theorem State.setFlag_line (k : Kind) : (s.setFlag k).line = s.line := rfl
@[simp] theorem State.setFlag_ml (k : Kind) : (s.setFlag k).ml = s.ml := rfl
@[simp] theorem State.setFlag_attn (k : Kind) : (s.setFlag k).attn = { s.attn with raw := s.attn.raw ||| kindBit k } := rfl

@[simp] theorem State.clearFlags_pending : (s.clearFlags).pending = s.pending := rfl
@[simp] theorem State.clearFlags_power : (s.clearFlags).power = s.power := rfl
@[simp] theorem State.clearFlags_own : (s.clearFlags).own = s.own := rfl
@[simp] theorem State.clearFlags_cfg : (s.clearFlags).cfg = s.cfg := rfl
@[simp] theorem State.clearFlags_cfgBus : (s.clearFlags).cfgBus = s.cfgBus := rfl
@[simp] theorem State.clearFlags_lines : (s.clearFlags).lines = s.lines := rfl
@[simp] theorem State.clearFlags_cycle : (s.clearFlags).cycle = s.cycle := rfl
@[simp] theorem State.clearFlags_zu : (s.clearFlags).zu = s.zu := rfl
@[simp] theorem State.clearFlags_weigh : (s.clearFlags).weigh = s.weigh := rfl
@[simp] theorem State.clearFlags_share : (s.clearFlags).share = s.share := rfl
@[simp] theorem State.clearFlags_peers : (s.clearFlags).peers = s.peers := rfl
@[simp] theorem State.clearFlags_lift : (s.clearFlags).lift = s.lift := rfl
@[simp] theorem State.clearFlags_hist : (s.clearFlags).hist = s.hist := rfl
@[simp] theorem State.clearFlags_line : (s.clearFlags).line = s.line := rfl
@[simp] theorem State.clearFlags_ml : (s.clearFlags).ml = s.ml := rfl
@[simp] theorem State.clearFlags_attn : (s.clearFlags).attn = { s.attn with raw := 0#16 } := rfl

@[simp] theorem State.resetLevels_pending : (s.resetLevels).pending = s.pending := rfl
@[simp] theorem State.resetLevels_power : (s.resetLevels).power = s.power := rfl
@[simp] theorem State.resetLevels_own : (s.resetLevels).own = s.own := rfl
@[simp] theorem State.resetLevels_cfg : (s.resetLevels).cfg = s.cfg := rfl
@[simp] theorem State.resetLevels_cfgBus : (s.resetLevels).cfgBus = s.cfgBus := rfl
@[simp] theorem State.resetLevels_lines : (s.resetLevels).lines = s.lines := rfl
@[simp] theorem State.resetLevels_cycle : (s.resetLevels).cycle = s.cycle := rfl
@[simp] theorem State.resetLevels_zu : (s.resetLevels).zu = s.zu := rfl
@[simp] theorem State.resetLevels_weigh : (s.resetLevels).weigh = s.weigh := rfl
@[simp] theorem State.resetLevels_share : (s.resetLevels).share = s.share := rfl
@[simp] theorem State.resetLevels_peers : (s.resetLevels).peers = s.peers := rfl
@[simp] theorem State.resetLevels_lift : (s.resetLevels).lift = s.lift := rfl
@[simp] theorem State.resetLevels_hist : (s.resetLevels).hist = s.hist := rfl
@[simp] theorem State.resetLevels_line : (s.resetLevels).line = s.line := rfl
@[simp] theorem State.resetLevels_ml : (s.resetLevels).ml = s.ml := rfl
@[simp] theorem State.resetLevels_attn : (s.resetLevels).attn = { s.attn with raw := s.attn.raw ||| s.levelFlags } := rfl

@[simp] theorem State.takeDemands_pending : (s.takeDemands).pending = s.pending := rfl
@[simp] theorem State.takeDemands_power : (s.takeDemands).power = s.power := rfl
@[simp] theorem State.takeDemands_own : (s.takeDemands).own = s.own := rfl
@[simp] theorem State.takeDemands_cfg : (s.takeDemands).cfg = s.cfg := rfl
@[simp] theorem State.takeDemands_cfgBus : (s.takeDemands).cfgBus = s.cfgBus := rfl
@[simp] theorem State.takeDemands_lines : (s.takeDemands).lines = s.lines := rfl
@[simp] theorem State.takeDemands_cycle : (s.takeDemands).cycle = s.cycle := rfl
@[simp] theorem State.takeDemands_zu : (s.takeDemands).zu = s.zu := rfl
@[simp] theorem State.takeDemands_weigh : (s.takeDemands).weigh = s.weigh := rfl
@[simp] theorem State.takeDemands_peers : (s.takeDemands).peers = s.peers := rfl
@[simp] theorem State.takeDemands_lift : (s.takeDemands).lift = s.lift := rfl
@[simp] theorem State.takeDemands_hist : (s.takeDemands).hist = s.hist := rfl
@[simp] theorem State.takeDemands_line : (s.takeDemands).line = s.line := rfl
@[simp] theorem State.takeDemands_ml : (s.takeDemands).ml = s.ml := rfl
@[simp] theorem State.takeDemands_attn : (s.takeDemands).attn = s.attn := rfl

@[simp] theorem State.setWeigh_pending (w : Weigh) : (s.setWeigh w).pending = s.pending := rfl
@[simp] theorem State.setWeigh_power (w : Weigh) : (s.setWeigh w).power = s.power := rfl
@[simp] theorem State.setWeigh_own (w : Weigh) : (s.setWeigh w).own = s.own := rfl
@[simp] theorem State.setWeigh_cfg (w : Weigh) : (s.setWeigh w).cfg = s.cfg := rfl
@[simp] theorem State.setWeigh_cfgBus (w : Weigh) : (s.setWeigh w).cfgBus = s.cfgBus := rfl
@[simp] theorem State.setWeigh_lines (w : Weigh) : (s.setWeigh w).lines = s.lines := rfl
@[simp] theorem State.setWeigh_cycle (w : Weigh) : (s.setWeigh w).cycle = s.cycle := rfl
@[simp] theorem State.setWeigh_zu (w : Weigh) : (s.setWeigh w).zu = s.zu := rfl
@[simp] theorem State.setWeigh_share (w : Weigh) : (s.setWeigh w).share = s.share := rfl
@[simp] theorem State.setWeigh_peers (w : Weigh) : (s.setWeigh w).peers = s.peers := rfl
@[simp] theorem State.setWeigh_lift (w : Weigh) : (s.setWeigh w).lift = s.lift := rfl
@[simp] theorem State.setWeigh_hist (w : Weigh) : (s.setWeigh w).hist = s.hist := rfl
@[simp] theorem State.setWeigh_line (w : Weigh) : (s.setWeigh w).line = s.line := rfl
@[simp] theorem State.setWeigh_ml (w : Weigh) : (s.setWeigh w).ml = s.ml := rfl
@[simp] theorem State.setWeigh_attn (w : Weigh) : (s.setWeigh w).attn = s.attn := rfl
@[simp] theorem State.setWeigh_weigh (w : Weigh) : (s.setWeigh w).weigh = w := rfl

@[simp] theorem State.setBuild_pending (b : Build) : (s.setBuild b).pending = s.pending := rfl
@[simp] theorem State.setBuild_power (b : Build) : (s.setBuild b).power = s.power := rfl
@[simp] theorem State.setBuild_own (b : Build) : (s.setBuild b).own = s.own := rfl
@[simp] theorem State.setBuild_cfg (b : Build) : (s.setBuild b).cfg = s.cfg := rfl
@[simp] theorem State.setBuild_cfgBus (b : Build) : (s.setBuild b).cfgBus = s.cfgBus := rfl
@[simp] theorem State.setBuild_lines (b : Build) : (s.setBuild b).lines = s.lines := rfl
@[simp] theorem State.setBuild_cycle (b : Build) : (s.setBuild b).cycle = s.cycle := rfl
@[simp] theorem State.setBuild_zu (b : Build) : (s.setBuild b).zu = s.zu := rfl
@[simp] theorem State.setBuild_share (b : Build) : (s.setBuild b).share = s.share := rfl
@[simp] theorem State.setBuild_peers (b : Build) : (s.setBuild b).peers = s.peers := rfl
@[simp] theorem State.setBuild_lift (b : Build) : (s.setBuild b).lift = s.lift := rfl
@[simp] theorem State.setBuild_hist (b : Build) : (s.setBuild b).hist = s.hist := rfl
@[simp] theorem State.setBuild_line (b : Build) : (s.setBuild b).line = s.line := rfl
@[simp] theorem State.setBuild_ml (b : Build) : (s.setBuild b).ml = s.ml := rfl
@[simp] theorem State.setBuild_attn (b : Build) : (s.setBuild b).attn = s.attn := rfl
@[simp] theorem State.setBuild_weigh (b : Build) : (s.setBuild b).weigh = { s.weigh with build := b } := rfl

@[simp] theorem State.updCycle_pending (f : Cycle → Cycle) : (s.updCycle f).pending = s.pending := rfl
@[simp] theorem State.updCycle_power (f : Cycle → Cycle) : (s.updCycle f).power = s.power := rfl
@[simp] theorem State.updCycle_own (f : Cycle → Cycle) : (s.updCycle f).own = s.own := rfl
@[simp] theorem State.updCycle_cfg (f : Cycle → Cycle) : (s.updCycle f).cfg = s.cfg := rfl
@[simp] theorem State.updCycle_cfgBus (f : Cycle → Cycle) : (s.updCycle f).cfgBus = s.cfgBus := rfl
@[simp] theorem State.updCycle_lines (f : Cycle → Cycle) : (s.updCycle f).lines = s.lines := rfl
@[simp] theorem State.updCycle_zu (f : Cycle → Cycle) : (s.updCycle f).zu = s.zu := rfl
@[simp] theorem State.updCycle_weigh (f : Cycle → Cycle) : (s.updCycle f).weigh = s.weigh := rfl
@[simp] theorem State.updCycle_share (f : Cycle → Cycle) : (s.updCycle f).share = s.share := rfl
@[simp] theorem State.updCycle_peers (f : Cycle → Cycle) : (s.updCycle f).peers = s.peers := rfl
@[simp] theorem State.updCycle_lift (f : Cycle → Cycle) : (s.updCycle f).lift = s.lift := rfl
@[simp] theorem State.updCycle_hist (f : Cycle → Cycle) : (s.updCycle f).hist = s.hist := rfl
@[simp] theorem State.updCycle_line (f : Cycle → Cycle) : (s.updCycle f).line = s.line := rfl
@[simp] theorem State.updCycle_ml (f : Cycle → Cycle) : (s.updCycle f).ml = s.ml := rfl
@[simp] theorem State.updCycle_attn (f : Cycle → Cycle) : (s.updCycle f).attn = s.attn := rfl
@[simp] theorem State.updCycle_cycle (f : Cycle → Cycle) : (s.updCycle f).cycle = f s.cycle := rfl

@[simp] theorem State.updLines_pending (f : Lines → Lines) : (s.updLines f).pending = s.pending := rfl
@[simp] theorem State.updLines_power (f : Lines → Lines) : (s.updLines f).power = s.power := rfl
@[simp] theorem State.updLines_own (f : Lines → Lines) : (s.updLines f).own = s.own := rfl
@[simp] theorem State.updLines_cfg (f : Lines → Lines) : (s.updLines f).cfg = s.cfg := rfl
@[simp] theorem State.updLines_cfgBus (f : Lines → Lines) : (s.updLines f).cfgBus = s.cfgBus := rfl
@[simp] theorem State.updLines_cycle (f : Lines → Lines) : (s.updLines f).cycle = s.cycle := rfl
@[simp] theorem State.updLines_zu (f : Lines → Lines) : (s.updLines f).zu = s.zu := rfl
@[simp] theorem State.updLines_weigh (f : Lines → Lines) : (s.updLines f).weigh = s.weigh := rfl
@[simp] theorem State.updLines_share (f : Lines → Lines) : (s.updLines f).share = s.share := rfl
@[simp] theorem State.updLines_peers (f : Lines → Lines) : (s.updLines f).peers = s.peers := rfl
@[simp] theorem State.updLines_lift (f : Lines → Lines) : (s.updLines f).lift = s.lift := rfl
@[simp] theorem State.updLines_hist (f : Lines → Lines) : (s.updLines f).hist = s.hist := rfl
@[simp] theorem State.updLines_line (f : Lines → Lines) : (s.updLines f).line = s.line := rfl
@[simp] theorem State.updLines_ml (f : Lines → Lines) : (s.updLines f).ml = s.ml := rfl
@[simp] theorem State.updLines_attn (f : Lines → Lines) : (s.updLines f).attn = s.attn := rfl
@[simp] theorem State.updLines_lines (f : Lines → Lines) : (s.updLines f).lines = f s.lines := rfl

@[simp] theorem State.updLift_pending (f : Lift → Lift) : (s.updLift f).pending = s.pending := rfl
@[simp] theorem State.updLift_power (f : Lift → Lift) : (s.updLift f).power = s.power := rfl
@[simp] theorem State.updLift_own (f : Lift → Lift) : (s.updLift f).own = s.own := rfl
@[simp] theorem State.updLift_cfg (f : Lift → Lift) : (s.updLift f).cfg = s.cfg := rfl
@[simp] theorem State.updLift_cfgBus (f : Lift → Lift) : (s.updLift f).cfgBus = s.cfgBus := rfl
@[simp] theorem State.updLift_lines (f : Lift → Lift) : (s.updLift f).lines = s.lines := rfl
@[simp] theorem State.updLift_cycle (f : Lift → Lift) : (s.updLift f).cycle = s.cycle := rfl
@[simp] theorem State.updLift_zu (f : Lift → Lift) : (s.updLift f).zu = s.zu := rfl
@[simp] theorem State.updLift_weigh (f : Lift → Lift) : (s.updLift f).weigh = s.weigh := rfl
@[simp] theorem State.updLift_share (f : Lift → Lift) : (s.updLift f).share = s.share := rfl
@[simp] theorem State.updLift_peers (f : Lift → Lift) : (s.updLift f).peers = s.peers := rfl
@[simp] theorem State.updLift_hist (f : Lift → Lift) : (s.updLift f).hist = s.hist := rfl
@[simp] theorem State.updLift_line (f : Lift → Lift) : (s.updLift f).line = s.line := rfl
@[simp] theorem State.updLift_ml (f : Lift → Lift) : (s.updLift f).ml = s.ml := rfl
@[simp] theorem State.updLift_attn (f : Lift → Lift) : (s.updLift f).attn = s.attn := rfl
@[simp] theorem State.updLift_lift (f : Lift → Lift) : (s.updLift f).lift = f s.lift := rfl

@[simp] theorem State.updZu_pending (f : ZoneUnit → ZoneUnit) : (s.updZu f).pending = s.pending := rfl
@[simp] theorem State.updZu_power (f : ZoneUnit → ZoneUnit) : (s.updZu f).power = s.power := rfl
@[simp] theorem State.updZu_own (f : ZoneUnit → ZoneUnit) : (s.updZu f).own = s.own := rfl
@[simp] theorem State.updZu_cfg (f : ZoneUnit → ZoneUnit) : (s.updZu f).cfg = s.cfg := rfl
@[simp] theorem State.updZu_cfgBus (f : ZoneUnit → ZoneUnit) : (s.updZu f).cfgBus = s.cfgBus := rfl
@[simp] theorem State.updZu_lines (f : ZoneUnit → ZoneUnit) : (s.updZu f).lines = s.lines := rfl
@[simp] theorem State.updZu_cycle (f : ZoneUnit → ZoneUnit) : (s.updZu f).cycle = s.cycle := rfl
@[simp] theorem State.updZu_weigh (f : ZoneUnit → ZoneUnit) : (s.updZu f).weigh = s.weigh := rfl
@[simp] theorem State.updZu_share (f : ZoneUnit → ZoneUnit) : (s.updZu f).share = s.share := rfl
@[simp] theorem State.updZu_peers (f : ZoneUnit → ZoneUnit) : (s.updZu f).peers = s.peers := rfl
@[simp] theorem State.updZu_lift (f : ZoneUnit → ZoneUnit) : (s.updZu f).lift = s.lift := rfl
@[simp] theorem State.updZu_hist (f : ZoneUnit → ZoneUnit) : (s.updZu f).hist = s.hist := rfl
@[simp] theorem State.updZu_line (f : ZoneUnit → ZoneUnit) : (s.updZu f).line = s.line := rfl
@[simp] theorem State.updZu_ml (f : ZoneUnit → ZoneUnit) : (s.updZu f).ml = s.ml := rfl
@[simp] theorem State.updZu_attn (f : ZoneUnit → ZoneUnit) : (s.updZu f).attn = s.attn := rfl
@[simp] theorem State.updZu_zu (f : ZoneUnit → ZoneUnit) : (s.updZu f).zu = f s.zu := rfl

@[simp] theorem State.updMl_pending (f : ModeLogic → ModeLogic) : (s.updMl f).pending = s.pending := rfl
@[simp] theorem State.updMl_power (f : ModeLogic → ModeLogic) : (s.updMl f).power = s.power := rfl
@[simp] theorem State.updMl_own (f : ModeLogic → ModeLogic) : (s.updMl f).own = s.own := rfl
@[simp] theorem State.updMl_cfg (f : ModeLogic → ModeLogic) : (s.updMl f).cfg = s.cfg := rfl
@[simp] theorem State.updMl_cfgBus (f : ModeLogic → ModeLogic) : (s.updMl f).cfgBus = s.cfgBus := rfl
@[simp] theorem State.updMl_lines (f : ModeLogic → ModeLogic) : (s.updMl f).lines = s.lines := rfl
@[simp] theorem State.updMl_cycle (f : ModeLogic → ModeLogic) : (s.updMl f).cycle = s.cycle := rfl
@[simp] theorem State.updMl_zu (f : ModeLogic → ModeLogic) : (s.updMl f).zu = s.zu := rfl
@[simp] theorem State.updMl_weigh (f : ModeLogic → ModeLogic) : (s.updMl f).weigh = s.weigh := rfl
@[simp] theorem State.updMl_share (f : ModeLogic → ModeLogic) : (s.updMl f).share = s.share := rfl
@[simp] theorem State.updMl_peers (f : ModeLogic → ModeLogic) : (s.updMl f).peers = s.peers := rfl
@[simp] theorem State.updMl_lift (f : ModeLogic → ModeLogic) : (s.updMl f).lift = s.lift := rfl
@[simp] theorem State.updMl_hist (f : ModeLogic → ModeLogic) : (s.updMl f).hist = s.hist := rfl
@[simp] theorem State.updMl_line (f : ModeLogic → ModeLogic) : (s.updMl f).line = s.line := rfl
@[simp] theorem State.updMl_attn (f : ModeLogic → ModeLogic) : (s.updMl f).attn = s.attn := rfl
@[simp] theorem State.updMl_ml (f : ModeLogic → ModeLogic) : (s.updMl f).ml = f s.ml := rfl

@[simp] theorem State.setReference_pending (sender : Station) : (s.setReference sender).pending = s.pending := rfl
@[simp] theorem State.setReference_power (sender : Station) : (s.setReference sender).power = s.power := rfl
@[simp] theorem State.setReference_own (sender : Station) : (s.setReference sender).own = s.own := rfl
@[simp] theorem State.setReference_cfg (sender : Station) : (s.setReference sender).cfg = s.cfg := rfl
@[simp] theorem State.setReference_cfgBus (sender : Station) : (s.setReference sender).cfgBus = s.cfgBus := rfl
@[simp] theorem State.setReference_lines (sender : Station) : (s.setReference sender).lines = s.lines := rfl
@[simp] theorem State.setReference_cycle (sender : Station) : (s.setReference sender).cycle = s.cycle := rfl
@[simp] theorem State.setReference_zu (sender : Station) : (s.setReference sender).zu = s.zu := rfl
@[simp] theorem State.setReference_weigh (sender : Station) : (s.setReference sender).weigh = s.weigh := rfl
@[simp] theorem State.setReference_share (sender : Station) : (s.setReference sender).share = s.share := rfl
@[simp] theorem State.setReference_peers (sender : Station) : (s.setReference sender).peers = s.peers := rfl
@[simp] theorem State.setReference_lift (sender : Station) : (s.setReference sender).lift = s.lift := rfl
@[simp] theorem State.setReference_hist (sender : Station) : (s.setReference sender).hist = s.hist := rfl
@[simp] theorem State.setReference_ml (sender : Station) : (s.setReference sender).ml = s.ml := rfl
@[simp] theorem State.setReference_attn (sender : Station) : (s.setReference sender).attn = s.attn := rfl
@[simp] theorem State.setReference_line (sender : Station) : (s.setReference sender).line = { s.line with idle := true, lastSender := sender } := rfl

@[simp] theorem State.setQueue_pending (q : List Entry) : (s.setQueue q).pending = s.pending := rfl
@[simp] theorem State.setQueue_power (q : List Entry) : (s.setQueue q).power = s.power := rfl
@[simp] theorem State.setQueue_own (q : List Entry) : (s.setQueue q).own = s.own := rfl
@[simp] theorem State.setQueue_cfg (q : List Entry) : (s.setQueue q).cfg = s.cfg := rfl
@[simp] theorem State.setQueue_cfgBus (q : List Entry) : (s.setQueue q).cfgBus = s.cfgBus := rfl
@[simp] theorem State.setQueue_lines (q : List Entry) : (s.setQueue q).lines = s.lines := rfl
@[simp] theorem State.setQueue_cycle (q : List Entry) : (s.setQueue q).cycle = s.cycle := rfl
@[simp] theorem State.setQueue_zu (q : List Entry) : (s.setQueue q).zu = s.zu := rfl
@[simp] theorem State.setQueue_weigh (q : List Entry) : (s.setQueue q).weigh = s.weigh := rfl
@[simp] theorem State.setQueue_share (q : List Entry) : (s.setQueue q).share = s.share := rfl
@[simp] theorem State.setQueue_peers (q : List Entry) : (s.setQueue q).peers = s.peers := rfl
@[simp] theorem State.setQueue_lift (q : List Entry) : (s.setQueue q).lift = s.lift := rfl
@[simp] theorem State.setQueue_hist (q : List Entry) : (s.setQueue q).hist = s.hist := rfl
@[simp] theorem State.setQueue_ml (q : List Entry) : (s.setQueue q).ml = s.ml := rfl
@[simp] theorem State.setQueue_attn (q : List Entry) : (s.setQueue q).attn = s.attn := rfl
@[simp] theorem State.setQueue_line (q : List Entry) : (s.setQueue q).line = { s.line with queue := q } := rfl

@[simp] theorem State.freshen_pending (src : Station) : (s.freshen src).pending = s.pending := rfl
@[simp] theorem State.freshen_power (src : Station) : (s.freshen src).power = s.power := rfl
@[simp] theorem State.freshen_own (src : Station) : (s.freshen src).own = s.own := rfl
@[simp] theorem State.freshen_cfg (src : Station) : (s.freshen src).cfg = s.cfg := rfl
@[simp] theorem State.freshen_cfgBus (src : Station) : (s.freshen src).cfgBus = s.cfgBus := rfl
@[simp] theorem State.freshen_lines (src : Station) : (s.freshen src).lines = s.lines := rfl
@[simp] theorem State.freshen_cycle (src : Station) : (s.freshen src).cycle = s.cycle := rfl
@[simp] theorem State.freshen_zu (src : Station) : (s.freshen src).zu = s.zu := rfl
@[simp] theorem State.freshen_weigh (src : Station) : (s.freshen src).weigh = s.weigh := rfl
@[simp] theorem State.freshen_share (src : Station) : (s.freshen src).share = s.share := rfl
@[simp] theorem State.freshen_lift (src : Station) : (s.freshen src).lift = s.lift := rfl
@[simp] theorem State.freshen_hist (src : Station) : (s.freshen src).hist = s.hist := rfl
@[simp] theorem State.freshen_line (src : Station) : (s.freshen src).line = s.line := rfl
@[simp] theorem State.freshen_ml (src : Station) : (s.freshen src).ml = s.ml := rfl
@[simp] theorem State.freshen_attn (src : Station) : (s.freshen src).attn = s.attn := rfl
@[simp] theorem State.freshen_peers (src : Station) : (s.freshen src).peers = s.peers.set src (s.peer src).heard := rfl

@[simp] theorem State.makeAbsent_pending (p : Station) : (s.makeAbsent p).pending = s.pending := rfl
@[simp] theorem State.makeAbsent_power (p : Station) : (s.makeAbsent p).power = s.power := rfl
@[simp] theorem State.makeAbsent_own (p : Station) : (s.makeAbsent p).own = s.own := rfl
@[simp] theorem State.makeAbsent_cfg (p : Station) : (s.makeAbsent p).cfg = s.cfg := rfl
@[simp] theorem State.makeAbsent_cfgBus (p : Station) : (s.makeAbsent p).cfgBus = s.cfgBus := rfl
@[simp] theorem State.makeAbsent_lines (p : Station) : (s.makeAbsent p).lines = s.lines := rfl
@[simp] theorem State.makeAbsent_cycle (p : Station) : (s.makeAbsent p).cycle = s.cycle := rfl
@[simp] theorem State.makeAbsent_zu (p : Station) : (s.makeAbsent p).zu = s.zu := rfl
@[simp] theorem State.makeAbsent_weigh (p : Station) : (s.makeAbsent p).weigh = s.weigh := rfl
@[simp] theorem State.makeAbsent_share (p : Station) : (s.makeAbsent p).share = s.share := rfl
@[simp] theorem State.makeAbsent_lift (p : Station) : (s.makeAbsent p).lift = s.lift := rfl
@[simp] theorem State.makeAbsent_hist (p : Station) : (s.makeAbsent p).hist = s.hist := rfl
@[simp] theorem State.makeAbsent_line (p : Station) : (s.makeAbsent p).line = s.line := rfl
@[simp] theorem State.makeAbsent_ml (p : Station) : (s.makeAbsent p).ml = s.ml := rfl
@[simp] theorem State.makeAbsent_attn (p : Station) : (s.makeAbsent p).attn = s.attn := rfl
@[simp] theorem State.makeAbsent_peers (p : Station) : (s.makeAbsent p).peers = s.peers.set p absentPeer := rfl

@[simp] theorem State.setRecovery_pending (b : Bool) : (s.setRecovery b).pending = s.pending := rfl
@[simp] theorem State.setRecovery_power (b : Bool) : (s.setRecovery b).power = s.power := rfl
@[simp] theorem State.setRecovery_own (b : Bool) : (s.setRecovery b).own = s.own := rfl
@[simp] theorem State.setRecovery_cfg (b : Bool) : (s.setRecovery b).cfg = s.cfg := rfl
@[simp] theorem State.setRecovery_cfgBus (b : Bool) : (s.setRecovery b).cfgBus = s.cfgBus := rfl
@[simp] theorem State.setRecovery_zu (b : Bool) : (s.setRecovery b).zu = s.zu := rfl
@[simp] theorem State.setRecovery_weigh (b : Bool) : (s.setRecovery b).weigh = s.weigh := rfl
@[simp] theorem State.setRecovery_share (b : Bool) : (s.setRecovery b).share = s.share := rfl
@[simp] theorem State.setRecovery_peers (b : Bool) : (s.setRecovery b).peers = s.peers := rfl
@[simp] theorem State.setRecovery_lift (b : Bool) : (s.setRecovery b).lift = s.lift := rfl
@[simp] theorem State.setRecovery_hist (b : Bool) : (s.setRecovery b).hist = s.hist := rfl
@[simp] theorem State.setRecovery_line (b : Bool) : (s.setRecovery b).line = s.line := rfl
@[simp] theorem State.setRecovery_ml (b : Bool) : (s.setRecovery b).ml = s.ml := rfl
@[simp] theorem State.setRecovery_attn (b : Bool) : (s.setRecovery b).attn = s.attn := rfl

end Sys2Proof.Machine
end

