-- ==== Sys2Proof/Laws/Tables.lean ====
section
/-! SUPPORT. Reading the zone table and the peer table after a write: the entry written reads as written, and every other
entry as before. And the small facts of the entries, of messages and of the memory transfers. -/

namespace Sys2Proof.Machine

variable (s : State)

@[simp] theorem State.zone_setZone_same (z : ZoneId) (v : Zone) : (s.setZone z v).zone z = v := by
  simp [State.zone, State.setZone]

@[simp] theorem State.zone_setZone_other (z y : ZoneId) (v : Zone) (h : y ≠ z) :
    (s.setZone z v).zone y = s.zone y := by
  have h' : z.val ≠ y.val := fun e => h (Fin.ext e.symm)
  simp [State.zone, State.setZone, Vector.getElem_set_ne _ _ h']

@[simp] theorem State.zone_mapZones (f : ZoneId → Zone → Zone) (z : ZoneId) :
    (s.mapZones f).zone z = f z (s.zone z) := by
  simp [State.zone, State.mapZones]

@[simp] theorem State.peer_setPeer_same (p : Station) (v : Peer) : (s.setPeer p v).peer p = v := by
  simp [State.peer, State.setPeer]

@[simp] theorem State.peer_setPeer_other (p q : Station) (v : Peer) (h : q ≠ p) :
    (s.setPeer p v).peer q = s.peer q := by
  have h' : p.val ≠ q.val := fun e => h (Fin.ext e.symm)
  simp [State.peer, State.setPeer, Vector.getElem_set_ne _ _ h']

@[simp] theorem State.peer_freshen_same (p : Station) : (s.freshen p).peer p = (s.peer p).heard :=
  s.peer_setPeer_same p _

@[simp] theorem State.peer_makeAbsent_same (p : Station) : (s.makeAbsent p).peer p = absentPeer :=
  s.peer_setPeer_same p _

/-- Every frame makes its source FRESH with the age restarted (R107). -/
theorem Peer.heard_fresh (p : Peer) : p.heard.presence = .fresh ∧ p.heard.age = some tStale := by
  unfold Peer.heard
  split <;> simp_all

/-- A present entry keeps its content at a frame (R107). -/
theorem Peer.heard_present (p : Peer) (h : p.presence ≠ .absent) :
    p.heard = { p with presence := .fresh, age := some tStale } := by
  unfold Peer.heard
  split <;> simp_all

/-- A message's class is 0 to 3 (R164). -/
theorem Msg.cls_le (m : Msg) : m.cls ≤ 3 := by cases m <;> simp [Msg.cls]

/-- Only two SHAREs or two RAISEs coalesce, and both are of class 2 (R164, R166). -/
theorem Msg.coalesces_cls (m n : Msg) (h : m.coalesces n = true) : m.cls = 2 ∧ n.cls = 2 := by
  cases m <;> cases n <;> simp_all [Msg.coalesces, Msg.isShare, Msg.isRaise, Msg.cls]

/-- A zone that has entered ACTIVE since the latest step has its output off (R45). -/
theorem Zone.output_of_entered (z : Zone) (tripOut : Bool) (h : z.entered = true) : z.output tripOut = false := by
  simp [Zone.output, h]

/-- A zone that is not ACTIVE has its output off (R44, R45). -/
theorem Zone.output_of_not_active (z : Zone) (tripOut : Bool) (h : z.state ≠ .active) : z.output tripOut = false := by
  simp [Zone.output, h]

/-- A zone that enters ACTIVE waits for the next step (R45). -/
theorem enteredAfter_active (z : Zone) (h : z.state ≠ .active) : enteredAfter z .active = true := by
  simp [enteredAfter, h]

/-- With a bad block the memory is read and nothing is written (R193, R199). -/
theorem configTransfers_bad (read : List Byte) (h : blockGood read = false) :
    configTransfers read = [.read memoryDevice 0#16 blockLength] := by
  simp [configTransfers, h]

end Sys2Proof.Machine
end

