-- ==== Sys2Proof/Laws/Queue.lean ====
section
/-! SUPPORT. What queueing a message can change: the transmit queue, the reply buffer's piece, and, where an own RAISE or
ASK finds no room, what its owner is told. One lemma for each operation that queues. -/

namespace Sys2Proof.Machine

/-- `t` is `s` but for the transmit queue and the piece and reply of the History Store. -/
def OnlyQueue (s t : State) : Prop :=
  t = { s with
    line := { s.line with queue := t.line.queue }
    hist := { s.hist with reply := t.hist.reply, piece := t.hist.piece } }

theorem OnlyQueue.refl (s : State) : OnlyQueue s s := rfl

theorem OnlyQueue.trans {s t u : State} (h : OnlyQueue s t) (k : OnlyQueue t u) : OnlyQueue s u := by
  unfold OnlyQueue at *
  rw [k, h]

theorem append_onlyQueue (s : State) (m : Msg) : OnlyQueue s (s.append m) := rfl

theorem pushClass3_onlyQueue (s : State) (m : Msg) : OnlyQueue s (s.pushClass3 m) := by
  unfold State.pushClass3
  split
  · exact append_onlyQueue s m
  · exact .refl s

theorem offerPiece_onlyQueue (s : State) : OnlyQueue s s.offerPiece := by
  unfold State.offerPiece
  split
  · exact .refl s
  · split
    · rfl
    · exact .refl s

theorem pieceLeft_onlyQueue (s : State) : OnlyQueue s s.pieceLeft := by
  unfold State.pieceLeft
  dsimp only
  split
  · rfl
  · split
    · exact OnlyQueue.trans (t := { s with hist := { s.hist with piece := none } }) rfl (offerPiece_onlyQueue _)
    · rfl

theorem class3Left_onlyQueue (s : State) (m : Msg) : OnlyQueue s (s.class3Left m) := by
  unfold State.class3Left
  split
  · exact pieceLeft_onlyQueue s
  · split
    · exact offerPiece_onlyQueue s
    · exact .refl s

/-- The owner of a message other than RAISE and ASK is told nothing. -/
theorem tellOwner_other (s : State) (m : Msg) (hr : m.isRaise = false) (ha : ∀ n, m ≠ .ask n) :
    s.tellOwner m = s := by
  unfold State.tellOwner
  split
  · simp [Msg.isRaise] at hr
  · exact absurd rfl (ha _)
  · rfl

/-- Queueing a message of class 0 to 2 changes only the queue, or finds no room and tells the owner. -/
theorem pushUrgent_cases (s : State) (m : Msg) :
    OnlyQueue s (s.pushUrgent m) ∨ s.pushUrgent m = s.tellOwner m := by
  unfold State.pushUrgent
  split
  · exact .inl rfl
  · split
    · exact .inl (append_onlyQueue s m)
    · split
      · rename_i gone q _
        have h : OnlyQueue s ({ s with line := { s.line with queue := q } }.append m) := rfl
        exact .inl (h.trans (class3Left_onlyQueue _ gone))
      · exact .inr rfl

/-- Queueing a message changes only the queue, or finds no room and tells the owner. -/
theorem enqueue_cases (s : State) (m : Msg) : OnlyQueue s (s.enqueue m) ∨ s.enqueue m = s.tellOwner m := by
  unfold State.enqueue
  split
  · exact .inl (pushClass3_onlyQueue s m)
  · exact pushUrgent_cases s m

/-- Queueing a message other than RAISE and ASK changes only the queue. -/
theorem enqueue_onlyQueue (s : State) (m : Msg) (hr : m.isRaise = false) (ha : ∀ n, m ≠ .ask n) :
    OnlyQueue s (s.enqueue m) := by
  rcases enqueue_cases s m with h | h
  · exact h
  · rw [h, tellOwner_other s m hr ha]
    exact .refl s

/-- Queueing SHARE changes only the queue. -/
theorem queueShare_onlyQueue (s : State) : OnlyQueue s s.queueShare := by
  unfold State.queueShare
  split
  · exact .refl s
  · exact enqueue_onlyQueue _ _ rfl (by intro n h; cases h)

/-- A message of class 3 is appended where it finds room, and lost without trace where it finds none. -/
theorem enqueue_class3 (s : State) (m : Msg) (h : m.cls = 3) :
    s.enqueue m = if roomForClass3 s.line.queue then s.append m else s := by
  simp [State.enqueue, h, State.pushClass3]

/-- Setting the cycle state changes the state and the queue alone. -/
theorem setCycle_onlyQueue (s : State) (st : CycleState) :
    OnlyQueue { s with cycle := { s.cycle with st := st } } (s.setCycle st) := by
  unfold State.setCycle
  split
  · rename_i h
    subst h
    rfl
  · exact queueShare_onlyQueue _

@[simp] theorem setCycle_st (s : State) (st : CycleState) : (s.setCycle st).cycle.st = st := by
  rw [show (s.setCycle st) = _ from setCycle_onlyQueue s st]

/-- Setting the claim changes the claim and the queue alone. -/
theorem setClaim_onlyQueue (s : State) (c : Nat) :
    OnlyQueue { s with share := { s.share with claim := c } } (s.setClaim c) := by
  unfold State.setClaim
  split
  · rename_i h
    subst h
    rfl
  · exact queueShare_onlyQueue _

@[simp] theorem setClaim_claim (s : State) (c : Nat) : (s.setClaim c).share.claim = c := by
  rw [show (s.setClaim c) = _ from setClaim_onlyQueue s c]

/-- Setting the starved state changes it, its timer, its condition and the queue alone. -/
theorem setStarved_onlyQueue (s : State) (b : Bool) :
    OnlyQueue { s with share := { s.share with
      starved := b, starveTimer := (s.setStarved b).share.starveTimer
      starvedCond := (s.setStarved b).share.starvedCond } } (s.setStarved b) := by
  have key : ∀ t : State, OnlyQueue t t.queueShare := queueShare_onlyQueue
  unfold State.setStarved
  split
  · rename_i h
    subst h
    rfl
  · split
    · rename_i hb
      subst hb
      have h := key { s with share := { s.share with starved := true, starveTimer := some tStarve } }
      unfold OnlyQueue at *
      rw [h]
    · rename_i hb
      have hb : b = false := by cases b <;> simp_all
      subst hb
      have h := key { s with share := { s.share with starved := false, starveTimer := none, starvedCond := false } }
      unfold OnlyQueue at *
      rw [h]

@[simp] theorem setStarved_starved (s : State) (b : Bool) : (s.setStarved b).share.starved = b := by
  have h := setStarved_onlyQueue s b
  unfold OnlyQueue at h
  rw [h]

/-- Raising a kind sets its flag, and changes beside it the queue alone. -/
theorem raiseKind_onlyQueue (s : State) (k : Kind) : OnlyQueue (s.setFlag k) (s.raiseKind k) := by
  unfold State.raiseKind
  split
  · exact enqueue_onlyQueue _ _ rfl (by intro n h; cases h)
  · exact .refl _

/-- Asking anew takes the next ask number and clears the deferred flag; beside the Lift Queue's record the queue alone
changes. -/
theorem requestAsk_fields (s : State) :
    s.requestAsk.cycle = { s.cycle with deferred := false } ∧ s.requestAsk.lift.ownAsk = s.lift.ownAsk + 1#8 ∧
    s.requestAsk.lift.view = s.lift.view ∧ s.requestAsk.share = s.share ∧ s.requestAsk.zu = s.zu ∧
    s.requestAsk.peers = s.peers ∧ s.requestAsk.weigh = s.weigh ∧ s.requestAsk.attn = s.attn := by
  unfold State.requestAsk
  generalize hu : ((s.updLift fun l => { l with ownAsk := s.lift.ownAsk + 1#8, outstanding := some (s.lift.ownAsk + 1#8) }).updCycle
    fun c => { c with deferred := false }) = u
  rcases enqueue_cases u (.ask (s.lift.ownAsk + 1#8)) with h | h
  · dsimp only
    rw [hu]
    unfold OnlyQueue at h
    rw [h, ← hu]
    simp
  · dsimp only
    rw [hu, h, ← hu]
    simp [State.tellOwner]

end Sys2Proof.Machine
end

