-- ==== Sys2Proof/Laws/Cycle.lean ====
section
/-! SUPPORT. What the shared operations of the Cycle Unit, the Lift Queue and the History Store can change. -/

namespace Sys2Proof.Machine

/-- Withdrawing stops the re-ask timer at most, and queues (R132). -/
theorem withdraw_onlyQueue (s : State) :
    OnlyQueue { s with lift := { s.lift with reAsk := s.withdraw.lift.reAsk } } s.withdraw := by
  unfold State.withdraw
  split
  · split
    · rename_i n _
      have h := enqueue_onlyQueue (s.updLift fun l => { l with reAsk := none }) (.done n true) rfl
        (by intro k hk; cases hk)
      unfold OnlyQueue at *
      rw [h]
      rfl
    · rfl
  · rfl

/-- Finishing queues DONE at most (R132). -/
theorem finish_onlyQueue (s : State) : OnlyQueue s s.finish := by
  unfold State.finish
  split
  · exact enqueue_onlyQueue _ _ rfl (by intro k hk; cases hk)
  · exact .refl s

/-- Storing a record makes the reserved slot STORED with it as the newest, and queues PART (R145). -/
theorem storeRecord_stored (s : State) (r : PartRecord) (n : Nat) (h : s.hist.reserved = some n) :
    (s.storeRecord r).hist.stored = s.hist.stored ++ [{ r with
      station := s.own, epoch := s.hist.epoch, serial := n
      reasons := { r.reasons with predecessorLost := s.hist.predecessorLost } }] ∧
    (s.storeRecord r).hist.reserved = none := by
  unfold State.storeRecord
  rw [h]
  dsimp only
  rw [show State.enqueue _ _ = _ from enqueue_onlyQueue _ _ rfl (by intro k hk; cases hk)]
  exact ⟨rfl, rfl⟩

/-- Closing a record empties PRESS (R75). -/
theorem closeRecord_press (s : State) (res : Result) : (s.closeRecord res).weigh.press = none := by
  unfold State.closeRecord
  split
  · assumption
  · rfl

/-- The dose counts never fall and never pass 32 bits (R24, R26). -/
theorem addDose_bounds (d inc : Nat) (h : d ≤ doseLimit) : d ≤ addDose d inc ∧ addDose d inc ≤ doseLimit := by
  unfold addDose
  omega

/-- A head change touches no view (R125). -/
theorem headReport_view (s : State) (n : Byte) : (s.headReport n).lift.view = s.lift.view := by
  have hset (t : State) (st : CycleState) : (t.setCycle st).lift = t.lift := by
    rw [show t.setCycle st = _ from setCycle_onlyQueue t st]
  unfold State.headReport
  split
  · split
    · dsimp only
      split
      · rfl
      · rw [show State.enqueue _ _ = _ from enqueue_onlyQueue _ _ rfl (by intro k hk; cases hk)]
        rfl
    · unfold State.enterOpening State.enterDemould
      dsimp only
      split
      · simp [hset]
      · simp [hset]
  · rfl

/-- Setting the view sets it (R121 to R125). -/
@[simp] theorem setView_view (s : State) (v : List LiftEntry) : (s.setView v).lift.view = v := by
  have hq (t : State) : t.queueShare.lift = t.lift := by
    rw [show t.queueShare = _ from queueShare_onlyQueue t]
  have hh (t : State) : t.headChange.lift.view = t.lift.view := by
    unfold State.headChange
    split
    · rfl
    · dsimp only
      split
      · rw [headReport_view]
        rfl
      · rfl
  unfold State.setView
  dsimp only
  repeat' split
  all_goals simp [hq, hh]

end Sys2Proof.Machine
end

