-- ==== Sys2Proof/Laws/Share.lean ====
section
/-! SUPPORT. What the shared operations of the Share Unit can change, and the sum bound of scaling. -/

namespace Sys2Proof.Machine

/-- A scaled duty is at most its demand (R87). -/
theorem scaledDuty_le (d load claim : Nat) : scaledDuty d load claim ≤ d := by
  unfold scaledDuty
  split
  · exact Nat.le_refl d
  · rename_i h
    have h : 20000 * claim ≤ load := by omega
    exact Nat.div_le_of_le_mul (by rw [Nat.mul_comm load]; exact Nat.mul_le_mul_left d h)

/-- With no claim and a load every scaled duty is 0 (R87). -/
theorem scaledDuty_zero_claim (d load : Nat) (h : 0 < load) : scaledDuty d load 0 = 0 := by
  simp [scaledDuty]
  omega

/-- A duty cut by the claim, times the load, stays within its share of the claim (R87). -/
theorem scaledDuty_mul_load (d load claim : Nat) (h : 20000 * claim < load) :
    scaledDuty d load claim * load ≤ d * (20000 * claim) := by
  unfold scaledDuty
  rw [if_neg (by omega)]
  exact Nat.div_mul_le_self _ _

/-- Scaling writes the duties and the curtailed mark, and nothing else (R87). -/
theorem scale_fields (s : State) :
    s.scale = { s with
      zu := { s.zu with table := s.scale.zu.table }, share := { s.share with curtailed := s.scale.share.curtailed } } := rfl

/-- The duty of a zone after scaling (R86, R87). -/
@[simp] theorem scale_zone (s : State) (z : ZoneId) :
    s.scale.zone z = { s.zone z with
      duty := if (s.zoneCfg z).enabled then scaledDuty (s.zone z).d s.share.load s.share.claim else 0 } := by
  simp [State.scale, State.zone, State.mapZones]

/-- Recounting changes the effective budget, the mark, the flags and the queue alone (R84). -/
theorem recount_fields (s : State) :
    s.recount.share = { s.share with
      bEff := s.heardBudgets.foldl min s.cfg.budget, mismatch := s.heardBudgets.any (fun b => b != s.cfg.budget) } ∧
    s.recount.zu = s.zu ∧ s.recount.peers = s.peers ∧ s.recount.cycle = s.cycle ∧ s.recount.lift = s.lift ∧
    s.recount.ml = s.ml ∧ s.recount.cfg = s.cfg ∧ s.recount.own = s.own ∧ s.recount.lines = s.lines ∧
    s.recount.weigh = s.weigh ∧ s.recount.power = s.power ∧ s.recount.pending = s.pending := by
  unfold State.recount
  dsimp only
  split
  · rw [show State.raiseKind _ _ = _ from raiseKind_onlyQueue _ _]
    simp [State.setFlag]
  · simp

/-- After the shed test the claim lies within what the budget leaves beside the committed claims counted (R93). -/
theorem shed_claim (s : State) : s.shed.share.claim = min s.share.claim (s.share.bEff - s.oCommit) := by
  have hq (t : State) : t.queueShare.share = t.share := by
    rw [show t.queueShare = _ from queueShare_onlyQueue t]
  have hs (t : State) (b : Bool) : (t.setStarved b).share.claim = t.share.claim := by
    rw [show t.setStarved b = _ from setStarved_onlyQueue t b]
  unfold State.shed
  dsimp only
  split
  · rename_i h
    rw [hq]
    split
    · rw [hs, scale_fields, setClaim_claim]
      omega
    · rw [scale_fields, setClaim_claim]
      omega
  · omega

/-- Giving up the claim leaves no claim, no pending raise and no starved state (R103). -/
theorem giveUpClaim_share (s : State) :
    s.giveUpClaim.share.claim = 0 ∧ s.giveUpClaim.share.raising = none ∧ s.giveUpClaim.share.starved = false := by
  have hs (t : State) (b : Bool) :
      (t.setStarved b).share.claim = t.share.claim ∧ (t.setStarved b).share.raising = t.share.raising := by
    rw [show t.setStarved b = _ from setStarved_onlyQueue t b]
    exact ⟨rfl, rfl⟩
  have hc (t : State) (c : Nat) : (t.setClaim c).share.raising = t.share.raising := by
    rw [show t.setClaim c = _ from setClaim_onlyQueue t c]
  unfold State.giveUpClaim
  dsimp only
  rw [scale_fields]
  dsimp only
  rw [(hs _ _).1, (hs _ _).2, setClaim_claim, hc, setStarved_starved]
  exact ⟨rfl, rfl, rfl⟩

end Sys2Proof.Machine
end

