-- ==== Sys2Proof/Tests/Slice0.lean ====
section
/-! SUPPORT. Tests of single steps against worked values of the spec, smoke tests of the well-formedness checks and of
the frame decoder, and, for each statement with hypotheses, a theorem that shows states and operands that meet them, one
for each clause, at a boundary where a clause has one. -/

open Sys2Proof Sys2Proof.Machine

set_option maxRecDepth 100000

namespace Sys2Proof.Tests

/-! ### Small states -/

/-- A configuration like that of the worked examples of chapters 1 to 4. -/
def cfg0 : Config :=
  { badConfig with
    good := true, budget := 600
    zones := Vector.replicate 8 { enabled := true, power := 7500, kp := 96, ki := 64 }
    margin := 100, tAbs := 2500, escalation := 3, standbySp := 1200, band := 30, soak := 2
    scaleZero := 0, scaleK := 65535, stableBand := 10, zeroBand := 20, plyMatch := 50, plyMin := 300
    liftUsed := true, tHold := 60, wakeMinutes := 45, wakeMode := .run, startMode := .run, recipeCount := 2
    recipes := Vector.replicate 8
      { cureSp := 1500, tRef := 1400, dBase := 300, tMin := 120, tMax := 600, dOverMax := 60, mTgt := 1000
        tolPm := 25, plyMinCount := 1, plyMaxCount := 3, closeTimeout := 20, openTimeout := 15 } }

/-- Station 3 running in mode `m` with the cycle in `st`. -/
def at' (m : Mode) (st : CycleState) : State :=
  { State.reset with
    power := .running, own := 3, cfg := cfg0
    lines := { State.reset.lines with tripOut := decide (m = .tripped) }
    cycle := { State.reset.cycle with st := st }
    share := { State.reset.share with ceiling := 600, bEff := 600 }
    ml := { State.reset.ml with mode := m } }

/-- A charge of the active recipe. -/
def charge0 : Charge := ⟨1000, [1000], 0⟩

/-- A station ready to close, with a charge staged. -/
def toClose : State :=
  let s := at' .run .loading
  { s with zu := { s.zu with ready := true }, weigh := { s.weigh with staged := some charge0 } }

/-- A part in the press, in state `st`, under serial 1. -/
def pressed (st : CycleState) : State :=
  let s := at' .run st
  { s with
    weigh := { s.weigh with press := some charge0 }
    hist := { s.hist with reserved := some 1, next := some 2 }
    cycle := { s.cycle with
      serial := 1, holdTimer := some 1000, closeTimer := if st = .closing then some 20000 else none
      openTimer := if st = .opening then some 15000 else none
      doseTimer := if st = .closing ∨ st = .demould then none else some 1000
      dReq := 300000, reasons := { noReasons with curePresent := decide (st ≠ .closing) } } }

/-- The state with one zone rewritten. -/
def withZone (s : State) (z : ZoneId) (f : Zone → Zone) : State := s.setZone z (f (s.zone z))

/-- The state with this transmit queue. -/
def withQueue (s : State) (q : List Entry) : State := s.setQueue q

/-- The state with this lift view. -/
def withView (s : State) (v : List LiftEntry) : State := { s with lift := { s.lift with view := v } }

/-- An entry in flight. -/
def flying (m : Msg) : Entry := ⟨m, 0, true⟩

/-- The state after a command. -/
def after (c : Instr) (s : State) : State :=
  match exec c s with
  | .next t => t
  | .fault f => nomatch f
  | .refused _ => s

/-- A record under a serial. -/
def record0 (n : Nat) : PartRecord :=
  { station := 3, epoch := 0, serial := n, recipe := 0, result := .good, reasons := noReasons, total := 1000
    plies := [1000], dReq := 300000, dOpen := 0, dOver := 0, cureSecs := 0, tLow := 0, tHigh := 0, curtailed := 0
    holdSecs := 0, liftWait := 0 }

/-- A part record that stores nothing has the 38 + 3 n bytes of R198. -/
theorem test_record_length : (record0 1).bytes.length = 41 := by decide

/-! ### Well-formedness, one ill-formed command for each check -/

theorem test_read_of_block_is_well_formed :
    (Instr.powerOn 3 (List.replicate 233 0#8) ⟨true, 0, 0⟩).wellFormed = true := by decide

theorem test_read_beyond_block_is_refused :
    (Instr.powerOn 3 (List.replicate 234 0#8) ⟨true, 0, 0⟩).wellFormed = false := by decide

theorem test_piece_byte_well_formed :
    (Instr.rxHdata 3 255#8 0#16 0xCD#8 (Vector.replicate 9 0#8)).wellFormed = true := by decide

/-- A piece index not below the count. -/
theorem test_piece_index_refused :
    (Instr.rxHdata 3 255#8 0#16 0x55#8 (Vector.replicate 9 0#8)).wellFormed = false := by decide

/-- A piece count of 0. -/
theorem test_piece_count_zero_refused :
    (Instr.rxHdata 3 255#8 0#16 0x00#8 (Vector.replicate 9 0#8)).wellFormed = false := by decide

/-- A piece count above 13. -/
theorem test_piece_count_above_refused :
    (Instr.rxHdata 3 255#8 0#16 0x0E#8 (Vector.replicate 9 0#8)).wellFormed = false := by decide

/-! ### The table word -/

/-- No row of the table has bits, so no word spells a command and the state is left as it is. -/
theorem test_no_table_word : decodeTableWord 16 0 = none := rfl

theorem test_fetch_word_leaves_state : State.reset.withFetchWord 16 0 = State.reset := rfl

/-! ### Frames (R157, R158, R168, R196) -/

/-- The check value R196 gives for the ASCII digits 1 to 9. -/
theorem test_crc_of_digits :
    crc16 [0x31#8, 0x32#8, 0x33#8, 0x34#8, 0x35#8, 0x36#8, 0x37#8, 0x38#8, 0x39#8] = 0x29B1#16 := by decide

/-- Header and payload with the check appended. -/
def checked (bytes : List Byte) : List Byte := bytes ++ beBytes 2 (crc16 bytes).toNat

theorem test_decode_share :
    decodeFrame (checked [0x3A#8, 0xFF#8, 1#8, 1#8, 0x4A#8, 2#8, 0x58#8, 4#8, 0xB0#8, 2#8, 4#8, 0x81#8, 9#8]) =
      some (.rxShare 3 0xFF#8 330#16 600#16 1200#16 2#8 4#8 0x81#8 9#8) := by decide

theorem test_decode_leave : decodeFrame (checked [0x30#8, 0xFF#8, 3#8]) = some (.rxLeave 3 0xFF#8) := by decide

theorem test_decode_drop :
    decodeFrame (checked [0x52#8, 0xFF#8, 6#8, 9#8, 4#8]) = some (.rxDrop 5 0xFF#8 9#8 4#8) := by decide

theorem test_decode_hget :
    decodeFrame (checked [0xE5#8, 3#8, 8#8, 1#8, 0#8, 0#8, 1#8, 2#8]) = some (.rxHget 14 3#8 1#8 258#32) := by decide

theorem test_decode_hold :
    decodeFrame (checked [0xE1#8, 0xFF#8, 15#8, 1#8]) = some (.rxHold 14 0xFF#8 1#8) := by decide

theorem test_decode_query : decodeFrame (checked [0xE0#8, 3#8, 19#8]) = some (.rxQuery 14 3#8) := by decide

theorem test_decode_trip :
    decodeFrame (checked [0x93#8, 0xFF#8, 21#8, 1#8, 0#8, 2#8]) = some (.rxTrip 9 0xFF#8 0#8 2#8) := by decide

/-- One bit of the strength changed: the check fails. -/
theorem test_damaged_frame_fails :
    decodeFrame ([0xE1#8, 0xFF#8, 15#8, 0#8] ++ beBytes 2 (crc16 [0xE1#8, 0xFF#8, 15#8, 1#8]).toNat) = none := by decide

/-- A kind that R168 does not define fails the form, although the check holds. -/
theorem test_undefined_kind_fails :
    activityCommand (checked [0xE0#8, 3#8, 22#8]) = .lineActivityFailed true := by decide

/-- Activity that announces more bytes than it holds forms no frame. -/
theorem test_short_activity_forms_none : activityCommand [0xE5#8, 3#8, 8#8] = .lineActivityFailed false := by decide

/-! ### Worked values of the spec -/

/-- The sample increments of the note of R23, for a reference of 140.0 degC. -/
theorem test_dose_increments :
    [950, 1000, 1300, 1362, 1399, 1400, 1475, 1530, 1800, 1950].map (fun t => doseIncrement t 1400) =
      [0, 62, 500, 758, 933, 1000, 1625, 2462, 16000, 16000] := by decide

/-- The masses of the note of R61. -/
theorem test_masses : (rawMass 1320000 120000 3000, rawMass 119000 120000 3000) = (54931, -46) := by decide

/-- The scaled duties of the note of R87. -/
theorem test_scaled_duties : (scaledDuty 130 6600000 250, scaledDuty 90 6600000 250) = (98, 68) := by decide

/-- The desired claim of the note of R86: eight zones of 7500 W, four demanding 130 and four 90. -/
theorem test_desired_claim : ceilDiv (4 * 130 * 7500 + 4 * 90 * 7500) 20000 = 330 := by decide

/-- The ceiling of R83: eight zones of 7500 W. -/
theorem test_ceiling : ceilingOf cfg0 = 600 := by decide

/-! ### Single steps, one small state each -/

theorem test_closeReq : (after .closeReq toClose).cycle.st = .closing ∧ (after .closeReq toClose).cycle.dReq = 300000 := by
  decide

theorem test_closedRise : (after .closedRise (pressed .closing)).cycle.doseTimer = some 1000 := by decide

/-- A press found closed outside the sequence is opened (R12). -/
theorem test_closedRise_recovery : (after .closedRise (at' .run .loading)).lines.openCmd = true := by decide

theorem test_openedRise : (after .openedRise (pressed .opening)).lines.liftCall = true := by decide

theorem test_partClear : (after .partClear (pressed .demould)).hist.stored.map (·.serial) = [1] := by decide

theorem test_holdInput_blocks :
    (after .closeReq (after (.holdInputChange true) toClose)).cycle.blocker = .hold := by decide

theorem test_start : (after .startInput (at' .standby .idle)).mode = .run := by decide

theorem test_start_held_while_pressed :
    (after (.rxRest 5 3#8 1#8) (pressed .cure)).ml.pendingMode = some .standby := by decide

theorem test_ack : (after .ackInput ((at' .run .warming).setFlag .overcure)).attn.raw = 0#16 := by decide

/-- A cause that has not been quiet for five samples keeps the trip (R51, R182). -/
theorem test_clear_keeps_trip : (after .clearInput (at' .tripped .faulted)).mode = .tripped := by decide

theorem test_temperature_overheat :
    ((after (.temperatureFrame true 2 1601 false)
      (withZone (at' .run .warming) 2 fun v => { v with state := .active, valid := true })).zone 2).state = .overheat := by
  decide

theorem test_temperature_trips : (after (.temperatureFrame true 2 2500 false) (at' .cold .idle)).lines.tripOut = true := by
  decide

theorem test_sensorLoss :
    ((after (.sensorLoss 2) (withZone (at' .run .warming) 2 fun v =>
      { v with state := .active, valid := true, loss := some 1000 })).zone 2).state = .sensorFault := by decide

theorem test_windowStep :
    ((after (.windowStep 0#8) (withZone (at' .run .warming) 2 fun v => { v with pos := .step 7 })).zone 2).pos =
      .step 8 := by decide

/-- A zone that returns to ACTIVE within a window has its output on from the next step, not before (R45). -/
theorem test_output_waits_for_step :
    let s := withZone (at' .run .warming) 2 fun v =>
      { v with state := .overheat, valid := true, temp := 1601, pos := .step 7, duty := 20 }
    let t := after (.temperatureFrame true 2 1500 false) s
    t.zoneOut 2 = false ∧ (after (.windowStep 0#8) t).zoneOut 2 = true := by decide

theorem test_windowEnd_open :
    ((after (.windowEnd 2) (withZone (at' .run .warming) 2 fun v =>
      { v with state := .active, valid := true, pos := .step 199, onStep := true, opens := 2 })).zone 2).state =
      .lockedOut := by decide

theorem test_leadInEnd :
    ((after (.leadInEnd 2) (withZone (at' .run .warming) 2 fun v => { v with pos := .leadIn 1 })).zone 2).pos =
      .begins := by decide

theorem test_soak :
    (after .soakTimer (let s := at' .run .warming
      { s with zu := { s.zu with soakTimer := some 1000, soakCount := 1, allInBand := true } })).cycle.st = .loading := by
  decide

theorem test_weighLoss :
    (after .weighLossTimer (let s := at' .run .warming
      { s with weigh := { s.weigh with link := .weighing, lossTimer := some 100 } })).weigh.link = .suspended := by decide

theorem test_age :
    ((after (.ageTimer 5) (after (.rxPart 5 255#8 0#16 1#32 0#8) (at' .run .warming))).peer 5).presence = .stale := by
  decide

theorem test_share_counts :
    (after (.rxShare 5 255#8 200#16 500#16 600#16 2#8 4#8 0#8 0#8) (at' .run .warming)).oCommit = 200 := by decide

/-- A SHARE with an undefined cycle state is taken for presence alone (R109, R197). -/
theorem test_share_undefined :
    ((after (.rxShare 5 255#8 200#16 500#16 600#16 2#8 9#8 0#8 0#8) (at' .run .warming)).peer 5).held = false := by decide

theorem test_raise_bound :
    ((after (.rxRaise 5 255#8 300#16) (at' .run .warming)).peer 5).bound = some 300 := by decide

theorem test_leave :
    (after (.rxLeave 5 255#8) (withView (at' .run .warming) [⟨9, 1#8⟩, ⟨5, 1#8⟩])).lift.view = [⟨9, 1#8⟩] := by decide

theorem test_ask : (after (.rxAsk 5 255#8 7#8) (at' .run .warming)).lift.view = [⟨5, 7#8⟩] := by decide

/-- The own entry becomes head: the press opens (R9). -/
theorem test_done_grants :
    (after (.rxDone 5 255#8 7#8 0#8) (withView (pressed .liftWait) [⟨5, 7#8⟩, ⟨3, 1#8⟩])).cycle.st = .opening := by decide

theorem test_drop_behind_head_ignored :
    (after (.rxDrop 9 255#8 5#8 7#8) (withView (at' .run .warming) [⟨9, 1#8⟩, ⟨5, 7#8⟩])).lift.view =
      [⟨9, 1#8⟩, ⟨5, 7#8⟩] := by decide

theorem test_hget_empty :
    (after (.rxHget 9 3#8 0#8 0#32) (at' .run .warming)).line.queue = [newEntry (.hnone 9 .emptyStore)] := by decide

theorem test_htake :
    (after (.rxHtake 9 3#8 5#32) (let s := at' .run .warming
      { s with hist := { s.hist with stored := [record0 4, record0 5] } })).hist.stored = [record0 4] := by decide

theorem test_wake_refused_range :
    (after (.rxWake 9 3#8 0#8) (at' .run .warming)).line.queue = [newEntry (.answer 9 13#8 .refusedRange)] := by decide

theorem test_hold_sets : (after (.rxHold 9 255#8 1#8) (at' .run .warming)).hold = .hard := by decide

theorem test_release_sets :
    (after (.rxRelease 9 255#8) (after (.rxHold 9 255#8 1#8) (at' .run .warming))).hold = .free := by decide

theorem test_select_busy :
    (after (.rxSelect 9 3#8 1#8) toClose).line.queue = [newEntry (.answer 9 18#8 .refusedBusy)] := by decide

theorem test_query :
    (after (.rxQuery 9 3#8) (at' .run .warming)).line.queue =
      [newEntry (.report 9 [2#8, 1#8, 0#8, 0#8, 0#8, 0#8, 0#8, 0#8, 0#8, 0#8, 0#8, 64#8])] := by decide

theorem test_forget_own_refused :
    (after (.rxForget 9 3#8 3#8) (at' .run .warming)).line.queue = [newEntry (.answer 9 20#8 .refusedRange)] := by decide

theorem test_conflict : (after .conflictFrame (at' .run .warming)).flag .stationConflict = true := by decide

/-- The sixteenth failed frame raises LINE_ERRORS (R158). -/
theorem test_line_errors :
    (after (.lineActivityFailed true) (let s := at' .run .warming
      { s with line := { s.line with errors := 15 } })).flag .lineErrors = true := by decide

/-- A TRIP is sent before an older ALERT (R165). -/
theorem test_access_slot :
    ((after (.accessSlot 3) (withQueue (at' .run .warming)
      [newEntry (.alert .config), newEntry (.trip .stuck 2)])).line.queue.map (·.inFlight)) = [false, true] := by decide

theorem test_echo_commits_raise :
    (after .echoTaken (let s := withQueue (at' .run .warming) [flying (.raise 330)]
      { s with share := { s.share with raising := some 330 } })).share.claim = 330 := by decide

theorem test_echo_failed_returns :
    (after (.echoFailed .damaged) (withQueue (at' .run .warming) [flying .leave])).line.queue =
      [⟨.leave, 1, false⟩] := by decide

/-- A bad block is read over its 233 bytes, and nothing is written back (R191, R193, R199). -/
theorem test_bad_block_writes_nothing :
    (after (.powerOn 3 [] ⟨true, 0, 0⟩) State.reset).cfgBus = [.read 0x50#7 0#16 233] := by decide

/-- The memory byte address goes out high byte first (R199). -/
theorem test_memory_address : (MemTransfer.read 0x50#7 231#16 2).addressBytes = [0#8, 231#8] := by decide

theorem test_supply_loss : (after .supplyLoss (at' .run .warming)).lines.tripOut = true := by decide

/-! ### Witnesses: states and operands that meet the hypotheses of the statements -/

/-- A station in COLD with START and a window step waiting. -/
def coldRunning : State := { at' .cold .idle with pending := [.startInput, .windowStep 0#8] }

theorem witness_QueueLimitsAreKept : coldRunning.QueueKept ∧ ∃ t, step coldRunning = .next t :=
  ⟨by unfold State.QueueKept; decide, _, rfl⟩

/-- A station in STANDBY whose raise is pending, its RAISE in flight and failing. -/
def raisingNow : State :=
  let s := at' .standby .idle
  { s with
    pending := [.echoFailed .damaged], share := { s.share with raising := some 330, shareTimer := some 1000 }
    line := { s.line with queue := [⟨.raise 330, 0, true⟩] } }

theorem witness_ClaimStaysWithinBudget :
    raisingNow.CycleKept ∧ raisingNow.ClaimKept ∧ raisingNow.QueueKept ∧ raisingNow.RaiseKept ∧
      raisingNow.share.raising = some 330 ∧ ∃ t, step raisingNow = .next t :=
  ⟨by unfold State.CycleKept; decide, by unfold State.ClaimKept; decide, by unfold State.QueueKept; decide,
    by unfold State.RaiseKept; decide, by decide, _, rfl⟩

theorem witness_DutiesStayWithinClaim : coldRunning.DutyKept ∧ ∃ t, step coldRunning = .next t :=
  ⟨by unfold State.DutyKept; decide, _, rfl⟩

theorem witness_ZonesObeyTheMode : coldRunning.ZonesKept ∧ ∃ t, step coldRunning = .next t :=
  ⟨by unfold State.ZonesKept; decide, _, rfl⟩

theorem witness_ReadinessFollowsReadings : coldRunning.ReadyKept ∧ ∃ t, step coldRunning = .next t :=
  ⟨by unfold State.ReadyKept State.BandsJudged; decide, _, rfl⟩

/-- A station with zone 0 alone enabled, out of band, whose next reading is the setpoint; `soak`: its soak time. -/
def oneZone (soak : Nat) : State :=
  let s := withZone (at' .run .warming) 0 fun v => { v with state := .active, valid := true, temp := 1400 }
  { s with
    pending := [.temperatureFrame true 0 1500 false]
    cfg := { cfg0 with
      soak := soak, zones := Vector.ofFn fun z => { enabled := decide (z = 0), power := 7500, kp := 96, ki := 64 } } }

theorem witness_soak_begins :
    (oneZone 2).ReadyKept ∧ (oneZone 2).zu.allInBand = false ∧
      (after (.temperatureFrame true 0 1500 false) (oneZone 2)).zu.allInBand = true ∧
      (after (.temperatureFrame true 0 1500 false) (oneZone 0)).zu.ready = true :=
  ⟨by unfold State.ReadyKept State.BandsJudged; decide, by decide, by decide, by decide⟩

theorem witness_ChargesMatchTheirRecipes : coldRunning.ChargeKept ∧ ∃ t, step coldRunning = .next t :=
  ⟨by unfold State.ChargeKept State.chargeKept tallied accepts; decide, _, rfl⟩

theorem witness_WeighingFollowsTheMode : coldRunning.WeighKept ∧ ∃ t, step coldRunning = .next t :=
  ⟨by unfold State.WeighKept massLegal; decide, _, rfl⟩

theorem witness_PressFollowsTheCycle : coldRunning.CycleKept ∧ ∃ t, step coldRunning = .next t :=
  ⟨by unfold State.CycleKept; decide, _, rfl⟩

theorem witness_LiftViewHoldsOneEntryPerStation : coldRunning.LiftKept ∧ ∃ t, step coldRunning = .next t :=
  ⟨by unfold State.LiftKept; decide, _, rfl⟩

theorem witness_PeerEntriesFollowPresence : coldRunning.PeersKept ∧ ∃ t, step coldRunning = .next t :=
  ⟨by unfold State.PeersKept; decide, _, rfl⟩

theorem witness_LevelFlagsStand : coldRunning.FlagsKept ∧ ∃ t, step coldRunning = .next t :=
  ⟨by unfold State.FlagsKept; decide, _, rfl⟩

theorem witness_SerialsIncrease :
    (pressed .cure).HistKept ∧ coldRunning.CycleKept ∧ coldRunning.HistKept ∧ ∃ t, step coldRunning = .next t :=
  ⟨by unfold State.HistKept; decide, by unfold State.CycleKept; decide, by unfold State.HistKept; decide, _, rfl⟩

theorem witness_SentFramesReadBack :
    (Msg.hdata 9 1#16 0 5 (List.replicate 9 7#8)).sized ∧ (Msg.report 9 (List.replicate 12 0#8)).sized ∧
    Msg.leave.sized := ⟨rfl, rfl, trivial⟩

/-- Five waiting class 3 entries. -/
def five : List Entry := List.replicate 5 (newEntry (.alert .config))

/-- Twelve entries, none of class 3. -/
def twelve : List Entry := List.replicate 12 (newEntry (.done 1#8 false))

theorem witness_QueueAdmission :
    (Msg.hbusy 9).cls = 3 ∧ Msg.leave.cls < 3 ∧ (Msg.raise 5).cls < 3 ∧
    (class3Count (five.drop 1) < 5 ∧ (five.drop 1).length < 12) ∧ 5 ≤ class3Count five ∧ 12 ≤ twelve.length ∧
    (∃ e ∈ [newEntry (.raise 3)], e.inFlight = false ∧ e.msg.coalesces (.raise 5) = true) ∧
    ((∀ e ∈ five, e.inFlight = false → e.msg.coalesces .leave = false) ∧ five.length < 12) ∧
    ((∀ e ∈ five ++ twelve.drop 5, e.inFlight = false → e.msg.coalesces .leave = false) ∧
      (five ++ twelve.drop 5).length = 12 ∧
      ∃ e ∈ five ++ twelve.drop 5, e.inFlight = false ∧ e.msg.cls = 3) ∧
    ((∀ e ∈ twelve, e.inFlight = false → e.msg.coalesces .leave = false) ∧
      ∀ e ∈ twelve, e.msg.cls = 3 → e.inFlight = true) ∧
    ((Msg.raise 5).isRaise = true ∧ (∀ e ∈ twelve, e.inFlight = false → e.msg.coalesces (.raise 5) = false) ∧
      (Msg.ask 1#8).cls < 3 ∧ (∀ e ∈ twelve, e.inFlight = false → e.msg.coalesces (.ask 1#8) = false) ∧
      Msg.leave.isRaise = false) := by decide

theorem witness_RaiseSetsFlagAndAlerts :
    { toClose with cfg := { cfg0 with enables := 0#16 } }.enabled .overcure = false ∧
    Kind.overcure ≠ .undercure ∧ class3Count toClose.line.queue < 5 ∧ toClose.line.queue.length < 12 ∧
    toClose.enabled .overcure = true ∧ 5 ≤ class3Count (withQueue toClose five).line.queue ∧
    (let q := List.replicate 12 (newEntry .leave); 12 ≤ q.length ∧ class3Count q < 5) := by decide

/-- A block of zeros with its CRC: good, with fields below their ranges. -/
def block0 : List Byte := List.replicate 231 0#8 ++ beBytes 2 (crc16 (List.replicate 231 0#8)).toNat

theorem witness_PowerOnTakesTheBlock :
    blockGood block0 = true ∧ blockGood [] = false ∧ 233 ≤ block0.length := by decide +kernel

theorem witness_StartSequenceEntersStartMode :
    let s := { at' .cold .idle with power := .starting }
    s.power = .starting ∧ s.mode = .cold ∧ s.cycle.st = .idle ∧ s.cfg.startMode = .run ∧
    { s with cfg := badConfig }.cfg.startMode = .cold ∧
    { s with cfg := { cfg0 with startMode := .standby } }.cfg.startMode = .standby ∧
    s.zoneControl = false ∧ { s with zu := { s.zu with control := some 2000 } }.zoneControl = true ∧
    s.line.queue.length + 4 ≤ 12 := by decide

/-- The first entry starts zone control: o_2 of station 3 is (50 + 36) mod 200 = 86, the lead-in of its zone 2; o_0 of
station 0 is 0, whose zone 0 begins in step 0 (R33, R43). -/
theorem test_start_of_zone_control :
    (let t := after .startSequenceEnd { at' .cold .idle with power := .starting };
      (t.zone 2).offset = 86 ∧ (t.zone 2).pos = .leadIn 86 ∧ t.zu.control = some 2000) ∧
    startPos 2 3 = .leadIn 86 ∧ startPos 0 0 = .step 0 := by decide

/-- Both platens with one counting zone. -/
def warm : State :=
  let f := fun v : Zone => { v with state := .active, valid := true, temp := 1500 }
  withZone (withZone (pressed .cure) 0 f) 7 fun v => { v with state := .overheat, valid := true, temp := 1450 }

theorem witness_CureTempGivesTheIncrement :
    warm.cureTemp = some 1450 ∧ (pressed .cure).cureTemp = none ∧
    ((999 : Int) - 1400 < -400 ∧ (400 : Int) < 1801 - 1400) ∧
    ((1800 : Int) - 1400 = 100 * (4 : Nat) + 10 * (0 : Nat) + (0 : Nat) ∧ (1800 : Int) - 1400 ≤ 400) ∧
    ((1000 : Int) - 1400 = 10 * (0 : Nat) + (0 : Nat) - 100 * (4 : Nat)) ∧
    ((1399 : Int) - 1400 = 10 * (9 : Nat) + (9 : Nat) - 100 * (1 : Nat)) := by decide

theorem witness_RequiredDoseWithinBounds :
    accepts { lowestRecipe with mTgt := 10, tolPm := 100 } 9 [9] ∧
    accepts { lowestRecipe with dBase := 65535, mTgt := 300000, tolPm := 100 } 330000 [330000] := by
  unfold accepts
  decide

theorem witness_CloseRequestIsBlocked :
    (pressed .demould).power = .running ∧ (pressed .demould).cycle.st ≠ .warming ∧ (pressed .demould).cycle.st ≠ .loading ∧
    ((at' .run .warming).zu.ready = false ∧ (at' .run .warming).cycle.st = .warming) ∧
    (let s := { toClose with weigh := { toClose.weigh with staged := none } };
      s.zu.ready = true ∧ s.weigh.staged = none ∧ s.cycle.st = .loading) ∧
    (let s := { toClose with cycle := { toClose.cycle with lineHold := .soft } };
      s.zu.ready = true ∧ s.weigh.staged.isSome = true ∧ s.cycle.lineHold = .soft) ∧
    (let s := { toClose with hist := { toClose.hist with next := none } };
      s.zu.ready = true ∧ s.weigh.staged.isSome = true ∧ s.lines.holdIn = false ∧ s.cycle.lineHold = .free ∧
        s.hist.next = none) ∧
    (let s := { toClose with hist := { toClose.hist with stored := List.replicate 64 (record0 1) } };
      s.cfg.historyMode = .strict ∧ s.hist.free = 0) := by decide

theorem witness_CloseIsTaken :
    (toClose.power = .running ∧ toClose.cycle.st = .loading ∧ toClose.zu.ready = true ∧
      toClose.weigh.staged = some charge0 ∧ toClose.lines.holdIn = false ∧ toClose.cycle.lineHold = .free ∧
      toClose.hist.next = some 1 ∧ 0 < toClose.hist.free) ∧
    (let s := { toClose with
      cfg := { cfg0 with historyMode := .lenient }
      hist := { toClose.hist with stored := List.replicate 64 (record0 1), next := some 4294967295 } };
      s.hist.next = some 4294967295 ∧ s.hist.free = 0 ∧ s.cfg.historyMode = .lenient) := by decide

theorem witness_PressInputsAct :
    ((pressed .closing).power ≠ .off ∧ (pressed .closing).cycle.st = .closing) ∧
    ((at' .run .loading).cycle.st.inSequence = false ∧ (at' .run .loading).lines.closeCmd = false ∧
      (at' .run .loading).lines.openedIn = false) ∧
    ((pressed .demould).cycle.st = .demould ∧ State.reset.power = .off) ∧
    ((pressed .opening).power ≠ .off ∧ (pressed .opening).cycle.st = .opening) ∧
    (let s := { at' .run .faulted with cycle := { (at' .run .faulted).cycle with recovery := true } };
      s.power ≠ .off ∧ s.cycle.st ≠ .opening ∧ s.cycle.recovery = true) ∧
    ((at' .run .faulted).cycle.st ≠ .opening ∧ (at' .run .faulted).cycle.recovery = false) := by decide

theorem witness_DoseTickActs :
    (at' .run .loading).cycle.doseTimer = none ∧
    (warm.cycle.doseTimer.isSome = true ∧ warm.cycle.st = .cure) ∧
    ((pressed .liftWait).cycle.doseTimer.isSome = true ∧ (pressed .opening).cycle.st = .opening) ∧
    (let s := { warm with cycle := { warm.cycle with elapsed := 599 } };
      s.recipe.tMax ≤ s.cycle.elapsed + 1 ∧ ¬s.cycle.dReq ≤ s.cycle.dose ∧ s.cfg.liftUsed = true ∧ s.hold ≠ .hard) ∧
    ({ warm with lines := { warm.lines with holdIn := true } }.hold = .hard) ∧
    ({ warm with cfg := { cfg0 with liftUsed := false } }.cfg.liftUsed = false) := by decide

theorem witness_PressTimeoutFaults :
    ((pressed .closing).cycle.closeTimer.isSome = true ∧ (pressed .closing).cycle.st = .closing) ∧
    ((pressed .opening).cycle.openTimer.isSome = true ∧ (pressed .opening).cycle.st = .opening) ∧
    (let s := { pressed .opening with ml := { (pressed .opening).ml with pendingMode := some .cold } };
      s.ml.pendingMode = some .cold ∧ s.weigh.press.isSome = true) ∧
    { pressed .closing with ml := ⟨.run, some .standby, none⟩ }.ml.pendingMode = some .standby ∧
    ((pressed .closing).hist.reserved = some 1 ∧ (pressed .closing).weigh.press.isSome = true ∧
      (pressed .closing).line.queue.length + 6 ≤ 12 ∧ class3Count (pressed .closing).line.queue < 5) := by decide

theorem witness_SecondTimersCount :
    (at' .run .idle).cycle.closeTimer = none ∧ (at' .run .idle).cycle.openTimer = none ∧
    ((pressed .cure).cycle.holdTimer.isSome = true ∧ (pressed .cure).lines.holdIn = false ∧
      (pressed .cure).cycle.lineHold = .free) ∧
    (let s := { pressed .cure with cycle := { (pressed .cure).cycle with lineHold := .soft } };
      s.cycle.holdTimer.isSome = true ∧ s.cycle.lineHold ≠ .free) ∧
    (at' .run .idle).zu.soakTimer = none ∧
    (let s := { at' .run .warming with zu := { (at' .run .warming).zu with soakTimer := some 1000 } };
      s.zu.soakTimer.isSome = true ∧ s.zu.soakCount + 1 < s.cfg.soak ∧
        s.cfg.soak ≤ { s with zu := { s.zu with soakCount := 1 } }.zu.soakCount + 1) := by decide

theorem witness_PartClearEndsCycle :
    ((pressed .opening).power = .running ∧ (pressed .opening).cycle.st ≠ .demould) ∧
    ((pressed .demould).cycle.st = .demould ∧ (pressed .demould).weigh.press = some charge0 ∧
      (pressed .demould).hist.reserved = some 1 ∧ (pressed .demould).ml.pendingMode = none) ∧
    { pressed .demould with ml := ⟨.run, some .standby, none⟩ }.ml.pendingMode = some .standby ∧
    ((pressed .demould).line.queue.length + 6 ≤ 12 ∧ class3Count (pressed .demould).line.queue < 5) := by decide

/-- A hard hold by the line on a part that waits for the lift, its ask deferred. -/
def held : State :=
  { pressed .liftWait with cycle := { (pressed .liftWait).cycle with deferred := true, lineHold := .hard } }

/-- The same hold by the input. -/
def heldHere : State :=
  { pressed .liftWait with
    cycle := { (pressed .liftWait).cycle with deferred := true }, lines := { (pressed .liftWait).lines with holdIn := true } }

theorem witness_HoldInputIsFollowed :
    State.reset.power ≠ .running ∧ heldHere.power = .running ∧ heldHere.hold = .hard ∧
    (after (.holdInputChange false) heldHere).hold ≠ .hard ∧ heldHere.cycle.deferred = true ∧
    heldHere.cycle.st = .liftWait ∧ heldHere.ownEntry = none ∧ toClose.hold ≠ .hard := by decide

theorem witness_NothingActsBeforeTheStartEnds :
    State.reset.power ≠ .running ∧
    (let s := { at' .cold .idle with power := .starting };
      s.power ≠ .running ∧ s.power = .starting ∧ (5 : Station) ≠ s.own) := by decide

/-- A WAKE to RUN and a HOLD heard in the start sequence leave mode and hold, and are not answered (R195). -/
theorem test_start_sequence_takes_presence :
    (let s := { at' .cold .idle with power := .starting };
      (after (.rxWake 5 3#8 2#8) s).mode = .cold ∧ (after (.rxWake 5 3#8 2#8) s).line.queue = [] ∧
        (after (.rxHold 5 255#8 1#8) s).hold = .free) := by decide

theorem witness_HoldFramesSetTheLineHold :
    held.power = .running ∧ (5 : Station) ≠ held.own ∧ (4#8).toNat < 16 ∧ (4#8).toNat ≠ held.own.val ∧
    1 < (2#8).toNat ∧ 16 ≤ (16#8).toNat ∧ (3#8).toNat = held.own.val ∧ held.hold = .hard ∧
    (after (.rxRelease 5 16#8) held).hold ≠ .hard ∧ held.cycle.deferred = true ∧ held.cycle.st = .liftWait ∧
    held.ownEntry = none := by decide

theorem witness_AckLeavesLevelFlags : toClose.power = .running := by decide

theorem witness_ClearActsAsOneEvent :
    (pressed .cure).power = .running ∧ (5 : Station) ≠ (pressed .cure).own ∧ (3#8).toNat = (pressed .cure).own.val ∧
    (255#8).toNat ≠ (pressed .cure).own.val ∧
    ((pressed .cure).weigh.press.isSome = true ∧ (pressed .cure).mode = .run ∧
      (pressed .cure).recipe.cureSp ≠ (pressed .cure).cfg.standbySp ∧ (pressed .cure).ml.pendingMode = none) ∧
    ((at' .run .loading).weigh.press = none ∧
      { pressed .cure with zu := { (pressed .cure).zu with control := some 2000 } }.zoneControl = true) ∧
    ((pressed .cure).zoneControl = false ∧ (pressed .cure).hist.reserved = some 1 ∧
      (pressed .cure).line.queue.length + 6 ≤ 12 ∧ class3Count (pressed .cure).line.queue < 5 ∧
      { pressed .cure with ml := ⟨.run, some .cold, none⟩ }.ml.pendingMode = some .cold ∧
      { pressed .cure with ml := ⟨.run, some .standby, none⟩ }.ml.pendingMode = some .standby) ∧
    ((at' .tripped .faulted).mode = .tripped ∧ (at' .tripped .faulted).causesGone = false ∧
      ((at' .tripped .faulted).mapZones fun _ v => { v with quiet := 5 }).causesGone = true) ∧
    (let s := withZone (at' .run .loading) 2 fun v => { v with state := .lockedOut, lockout := true };
      (s.zone 2).state = .lockedOut ∧ (s.zoneCfg 2).enabled = true ∧ s.setpoint = some 1500) := by decide

/-- CLEAR in CURE queues PART of the aborted record, and LEAVE where a COLD was pending (R29, R101, R145). -/
theorem test_clear_tells :
    newEntry (.part 0#16 1 .aborted) ∈ (after .clearInput (pressed .cure)).line.queue ∧
    newEntry .leave ∈ (after .clearInput { pressed .cure with ml := ⟨.run, some .cold, none⟩ }).line.queue := by decide

theorem witness_ModeRequestsAreJudged :
    (at' .standby .idle).power = .running ∧ (5 : Station) ≠ (at' .standby .idle).own ∧
    16 ≤ (16#8).toNat ∧ (3#8).toNat = (at' .standby .idle).own.val ∧ (0#8).toNat = 0 ∧ 3 ≤ (3#8).toNat ∧
    2 ≤ (2#8).toNat ∧ (4#8).toNat ≠ (at' .standby .idle).own.val ∧ (at' .standby .idle).ml.wakeTimer = none ∧
    (let s := { at' .cold .idle with ml := ⟨.cold, none, some 2700000⟩ };
      s.ml.wakeTimer.isSome = true ∧ s.mode = .cold ∧ s.cfg.wakeMode = .run) := by decide

theorem witness_TripCausesTrip :
    (at' .standby .idle).power = .running ∧ ((at' .standby .idle).zoneCfg 2).enabled = true ∧
    (at' .standby .idle).cfg.tAbs ≤ 2500 ∧ ((at' .standby .idle).zone 2).overLimit = false ∧
    (at' .standby .idle).mode ≠ .tripped ∧ (at' .tripped .faulted).mode = .tripped ∧
    (let s := withZone (at' .standby .idle) 2 fun v => { v with runLen := 5 };
      (s.zone 2).state ≠ .active ∧ (s.zone 2).runOn = false ∧ 5 ≤ (s.zone 2).runLen ∧
        (s.zone 2).stuckSent = false ∧ (4#8).getLsbD 2 = true ∧ (∀ y, (s.zone y).pos ≠ .step 199) ∧
        ∀ y : ZoneId, y ≠ 2 → (4#8).getLsbD y.val = false) ∧
    (let s := withZone (at' .run .loading) 2 fun v => { v with
        state := .active, valid := true, runLen := 5, duty := 40, pos := .step 44 };
      (s.zone 2).state = .active ∧ 44 ≠ 199 ∧ (s.zone 2).duty ≤ 44 + 1 ∧ (s.zone 2).runOn = false) ∧
    (at' .tripped .faulted).lines.tripOut = true := by decide

/-- Current at the fifth step after a switch-off by the duty is blanked, and at the sixth it trips the station (R47, R50). -/
theorem test_stuck_off_by_duty :
    (let s := fun k => withZone (at' .run .loading) 2 fun v => { v with
        state := .active, valid := true, runLen := k, duty := 40, pos := .step 44 };
      (after (.windowStep 4#8) (s 4)).mode = .run ∧ (after (.windowStep 4#8) (s 5)).mode = .tripped) := by decide

theorem witness_ReadingsMoveTheZone :
    (at' .run .warming).power = .running ∧
    (({ at' .run .warming with cfg := badConfig }).zoneCfg 2).enabled = false ∧
    ((at' .run .warming).zone 2).loss = none ∧ ((at' .run .warming).zoneCfg 2).enabled = true ∧
    ((-501 : Int) < -500 ∧ (4000 : Int) < 4001) ∧
    (let s := withZone (at' .run .warming) 2 fun v => { v with loss := some 1000, overLimit := true };
      (s.zone 2).loss.isSome = true ∧ (s.zone 2).overLimit = true) ∧
    ((-500 : Int) < (at' .run .warming).cfg.tAbs ∧ (2499 : Int) < (at' .run .warming).cfg.tAbs) ∧
    (at' .run .warming).setpoint = some 1500 ∧ (at' .tripped .faulted).setpoint = none := by decide

/-- Readiness gained moves WARMING to LOADING, and readiness lost moves it back; FAULTED stays (R3, R20). -/
theorem test_readiness_moves_the_cycle :
    (let c := fun x : Int => Instr.temperatureFrame true 0 x false
      let t := after (c 1500) (oneZone 0)
      t.cycle.st = .loading ∧ (after (c 1400) t).cycle.st = .warming ∧
        (after (c 1500) { oneZone 0 with cycle := { (oneZone 0).cycle with st := .faulted } }).cycle.st = .faulted) := by
  decide

theorem witness_WindowStepSamples :
    (warm.power = .running ∧ (∀ z, (warm.zone z).pos ≠ .step 199) ∧
      ∀ z, (warm.zoneCfg z).enabled = true → (0xFF#8).getLsbD z.val = true →
        (warm.zone z).runOn = true ∨ (warm.zone z).runLen < 5 ∨ (warm.zone z).stuckSent = true) ∧
    ((withZone warm 2 fun v => { v with pos := .step 198 }).zone 2).pos = .step 198 ∧ 198 ∈ List.range 199 ∧
    ((withZone warm 2 fun v => { v with pos := .leadIn 199 }).zone 2).pos = .leadIn (197 + 2) ∧
    (let s := withZone warm 2 fun v => { v with state := .active, pos := .step 38, duty := 40, runLen := 5 };
      (s.zone 2).runOn = false ∧ (s.zone 2).runLen = 5 ∧ (s.zone 2).stuckSent = false ∧ s.lines.tripOut = false ∧
        (s.zone 2).pos = .step 38 ∧ 38 + 1 < (s.zone 2).duty) ∧
    (let s := withZone (withZone warm 2 fun v => { v with pos := .step 199 }) 5 fun v => { v with pos := .step 199 };
      (s.zone 2).pos = .step 199 ∧ (s.zone 5).pos = .step 199 ∧
        ∀ y : ZoneId, y.val < 2 → (s.zone y).pos ≠ .step 199) := by decide

/-- Current is no fault at a step that switches the output on after a long off-run: the output is on at that step (R43,
R50). -/
theorem test_switch_on_with_current :
    (after (.windowStep 4#8) (withZone (at' .run .loading) 2 fun v => { v with
      state := .active, valid := true, runLen := 5, duty := 40, pos := .step 38 })).mode = .run := by decide

theorem witness_WindowsAreJudged :
    (warm.zone 2).pos ≠ .step 199 ∧ (warm.zone 2).pos ≠ .leadIn 1 ∧
    ((withZone warm 2 fun v => { v with pos := .leadIn 1 }).zone 2).pos = .leadIn 1 ∧
    (let s := withZone warm 2 fun v => { v with pos := .step 199, onStep := true, opens := 2 };
      (s.zone 2).pos = .step 199 ∧ (s.zone 2).onStep = true ∧ (s.zone 2).seen = false ∧
        ((after (.windowEnd 2) s).zone 2).opens = s.cfg.escalation) ∧
    (let s := withZone warm 2 fun v => { v with pos := .step 199, onStep := true };
      ((after (.windowEnd 2) s).zone 2).opens = 1) := by decide

/-- The warm station with zone control running, zone 0 below its setpoint. -/
def controlled : State :=
  withZone { warm with zu := { warm.zu with control := some 2000 } } 0 fun v => { v with temp := 1400 }

theorem witness_ControlTickSetsDuties :
    controlled.power = .running ∧ warm.zu.control = none ∧ controlled.zu.control.isSome = true ∧
    (controlled.zone 0).state = .active ∧ controlled.setpoint.isSome = true ∧ (controlled.zone 2).state ≠ .active := by
  decide

/-- A peer that is heard, starved and below its share, and a station above its own. -/
def crowded : State :=
  { (after (.rxShare 5 255#8 100#16 500#16 600#16 2#8 4#8 0x80#8 0#8) controlled) with
    share := { controlled.share with claim := 500 } }

theorem witness_ControlTickDecidesClaim :
    (controlled.power = .running ∧ controlled.zu.control.isSome = true ∧
      ∃ t, exec .controlTick controlled = .next t) ∧
    ({ controlled with share := { controlled.share with raising := some 5 } }.share.raising.isSome = true) ∧
    ((at' .cold .idle).mode = .cold ∧ controlled.mode = .run ∧ controlled.share.raising = none) ∧
    (crowded.fairShare (weightOf crowded.mode crowded.cycle.st) < crowded.share.claim ∧
      (crowded.peer 5).presence = .fresh ∧ (crowded.peer 5).held = true ∧ (crowded.peer 5).starved = true ∧
      (crowded.peer 5).claim < crowded.fairShare (crowded.peer 5).weight) ∧
    (controlled.share.listen = none ∧
      controlled.share.claim < (after .controlTick controlled).share.want ∧
      controlled.oRaise + controlled.share.claim < controlled.share.bEff) ∧
    (let s := { controlled with share := { controlled.share with bEff := 0 } };
      s.share.bEff ≤ s.oRaise + s.share.claim) ∧
    ({ controlled with share := { controlled.share with listen := some 3000 } }.share.listen.isSome = true) := by
  refine ⟨⟨by decide, by decide, _, rfl⟩, by decide, by decide, by decide, by decide, by decide, by decide⟩

/-- The station with a weigh window of `n` equal masses. -/
def weighing (n : Nat) : State :=
  { at' .run .warming with weigh := { (at' .run .warming).weigh with
      link := .weighing, lossTimer := some 100, window := List.replicate n 1000 } }

theorem witness_WeighFramesAreTaken :
    ((weighing 15).weigh.window.length ≤ 16 ∧ (weighing 15).weigh.link ≠ .inactive) ∧
    (at' .cold .idle).weigh.link = .inactive ∧ (at' .cold .idle).weigh.lossTimer = none ∧
    (weighing 15).weigh.lossTimer.isSome = true ∧
    ((0x7FFFFF#24).toInt * 65535 / 65536 > 300000 ∧ (0x800000#24).toInt * 65535 / 65536 < -32768) ∧
    ((weighing 14).weigh.window ++ [(1000 : Int)]).length < 16 ∧
    ((weighing 15).weigh.window ++ [(1000 : Int)]).length = 16 ∧
    (∀ a ∈ List.replicate 16 (1000 : Int), ∀ b ∈ List.replicate 16 (1000 : Int), a - b ≤ (10 : Int)) := by decide

/-- The station with this build on the scale. -/
def building (b : Build) : State :=
  { weighing 16 with weigh := { (weighing 16).weigh with build := b } }

theorem witness_StableEventsBeginAndEndBuilds :
    ((building emptyBuild).weigh.build.state = .empty ∧ -(building emptyBuild).cfg.zeroBand ≤ -20 ∧
      20 ≤ (building emptyBuild).cfg.zeroBand ∧ (building emptyBuild).cfg.plyMin ≤ 300 ∧
      299 < (building emptyBuild).cfg.plyMin) ∧
    (building ⟨.waitingStage, 1000, [1000], false⟩).weigh.build.state = .waitingStage ∧
    (building ⟨.disturbed, 1000, [1000], false⟩).weigh.build.state = .disturbed ∧
    ((building ⟨.accepted, 1000, [1000], false⟩).weigh.build.state = .accepted ∧
      (building ⟨.accepted, 1000, [1000], false⟩).weigh.staged = none) ∧
    ({ toClose with weigh := { toClose.weigh with build := ⟨.accepted, 1000, [1000], false⟩ } }.weigh.staged.isSome =
      true) ∧
    (building ⟨.overfull, 1100, [1100], false⟩).weigh.build.state = .overfull := by decide

theorem witness_StableEventsChangePlies :
    let s := building ⟨.building, 600, [300, 300], false⟩
    (s.weigh.build.state = .building ∧ 1 ≤ s.cfg.plyMin ∧ s.cfg.zeroBand < 300) ∧
    ((600 : Int) - 900 ≤ -s.cfg.plyMin ∧ s.weigh.build.plies.length < 24) ∧
    24 ≤ (building ⟨.overfull, 7200, List.replicate 24 300, false⟩).weigh.build.plies.length ∧
    (building ⟨.overfull, 7200, List.replicate 24 300, true⟩).weigh.build.overflow = true ∧
    (s.cfg.plyMin ≤ (600 : Int) - 300 ∧ (300 : Int) - s.cfg.plyMatch ≤ 300 ∧ (300 : Int) ≤ 300 + s.cfg.plyMatch) ∧
    (s.cfg.plyMin ≤ (600 : Int) - 249 ∧ (300 : Int) + s.cfg.plyMatch < 351) ∧
    (-s.cfg.plyMin < (600 : Int) - 301 ∧ (600 : Int) - 301 < s.cfg.plyMin) := by decide

theorem witness_SelectIsJudged :
    (at' .run .warming).power = .running ∧ (5 : Station) ≠ (at' .run .warming).own ∧
    (255#8).toNat ≠ (at' .run .warming).own.val ∧ (3#8).toNat = (at' .run .warming).own.val ∧
    (at' .run .warming).cfg.recipeCount ≤ (2#8).toNat ∧
    ((1#8).toNat = (1 : Fin 8).val ∧ (1 : Fin 8).val < (at' .run .warming).cfg.recipeCount) ∧
    toClose.weigh.staged.isSome = true ∧
    ((at' .run .warming).weigh.build.state = .empty ∧ (at' .run .warming).weigh.staged = none ∧
      (at' .run .warming).weigh.press = none ∧ (at' .run .warming).cycle.st = .warming) := by decide

/-- Station 5 has been heard. -/
def heard5 : State := after (.rxPart 5 255#8 0#16 1#32 0#8) (at' .run .warming)

theorem witness_PeerEntriesAreUpdated :
    (heard5.power ≠ .off ∧ (5 : Station) ≠ heard5.own ∧ (heard5.peer 5).presence = .fresh) ∧
    ((at' .run .warming).peer 5).presence ≠ .fresh := by decide

theorem witness_ShareOverwritesTheEntry :
    heard5.power ≠ .off ∧ (5 : Station) ≠ heard5.own ∧ 4 ≤ (4#8).toNat ∧ 9 ≤ (9#8).toNat ∧ (3#8).toNat % 4 = 3 ∧
    ((3#8).toNat = modeCode .tripped ∧ (8#8).toNat = cycleCode .faulted ∧ (0x82#8).toNat % 4 ≠ 3) ∧
    (let s := after (.rxShare 5 255#8 100#16 500#16 600#16 2#8 4#8 0#8 0#8) heard5;
      (s.peer 5).held = true ∧ (s.peer 5).presence ≠ .absent ∧ (s.peer 5).ceiling ≠ 501 ∧
        (s.peer 5).conflicts + 1 = 1) := by decide

theorem witness_DeparturesEmptyTheEntry :
    heard5.power ≠ .off ∧ heard5.power = .running ∧ (5 : Station) ≠ heard5.own ∧
    ((15#8).toNat = (15 : Station).val ∧ (15 : Station) ≠ heard5.own) ∧ 16 ≤ (16#8).toNat ∧
    (3#8).toNat = heard5.own.val ∧ 16 ≤ (16#8).toNat ∧ (4#8).toNat ≠ heard5.own.val ∧
    ({ heard5 with power := .starting }).power = .starting := by decide

/-- A view with station 9 as head, then the peer 5, then the own entry. -/
def viewed : State := withView (pressed .liftWait) [⟨9, 2#8⟩, ⟨5, 7#8⟩, ⟨3, 1#8⟩]

theorem witness_LiftFramesMoveTheView :
    viewed.power ≠ .off ∧ (5 : Station) ≠ viewed.own ∧ (⟨5, 7#8⟩ : LiftEntry) ∈ viewed.lift.view ∧
    (⟨5, 8#8⟩ : LiftEntry) ∉ viewed.lift.view ∧
    ((9#8).toNat = (9 : Station).val ∧ viewed.lift.view.head? = some ⟨9, 2#8⟩ ∧ (9 : Station) ≠ viewed.own) ∧
    16 ≤ (16#8).toNat ∧ viewed.lift.view.head? ≠ some ⟨5, 7#8⟩ := by decide

theorem witness_OwnDropIsTaken :
    (let s := withView (pressed .liftWait) [⟨3, 1#8⟩, ⟨5, 7#8⟩];
      s.power ≠ .off ∧ (5 : Station) ≠ s.own ∧ (3#8).toNat = s.own.val ∧ s.lift.view.head? = some ⟨s.own, 1#8⟩ ∧
      (∀ e ∈ s.lift.view.tail, e.station ≠ s.own) ∧ s.cycle.st = .liftWait ∧ s.hold ≠ .hard) ∧
    inFlightOf (withQueue (pressed .demould) [flying (.drop 3 1#8)]).line.queue = some ⟨.drop 3 1#8, 0, true⟩ ∧
    held.hold = .hard ∧ (pressed .demould).cycle.st = .demould ∧ (at' .run .loading).cycle.st = .loading := by decide

theorem witness_ShareAndLiftTimersExpire :
    ((at' .cold .idle).share.shareTimer = none ∧ (at' .cold .idle).mode = .cold) ∧
    (let s := { toClose with share := { toClose.share with shareTimer := some 1000, starveTimer := some 60000 } };
      s.share.shareTimer.isSome = true ∧ s.mode ≠ .cold ∧ s.share.starveTimer.isSome = true) ∧
    toClose.share.starveTimer = none ∧ toClose.lift.headTimer = none ∧ toClose.lift.reAsk = none ∧
    (let s := { viewed with lift := { viewed.lift with headTimer := some 60000, reAsk := some 1#8 } };
      s.lift.headTimer.isSome = true ∧ s.lift.view.head? = some ⟨9, 2#8⟩ ∧ s.mode ≠ .cold ∧ s.cfg.liftUsed = true ∧
        s.cfg.good = true ∧ s.lift.reAsk = some 1#8 ∧ s.cycle.st = .liftWait ∧ s.hold ≠ .hard ∧
        (withView s []).lift.view = []) ∧
    badConfig.liftUsed = false ∧ held.hold = .hard ∧
    (viewed.cfg.liftUsed = true ∧ (⟨viewed.own, 1#8⟩ : LiftEntry) ∈ viewed.lift.view ∧
      (∀ e ∈ viewed.lift.view, e.station = viewed.own → e = ⟨viewed.own, 1#8⟩) ∧
      viewed.lift.view.head? ≠ some ⟨viewed.own, 1#8⟩) ∧
    (let s := withView viewed [⟨3, 1#8⟩, ⟨5, 7#8⟩]; s.lift.view.head? = some ⟨s.own, 1#8⟩) ∧
    (∀ e ∈ (withView viewed [⟨5, 7#8⟩]).lift.view, e.station ≠ viewed.own) := by decide

/-- A store with two records. -/
def filled : State :=
  { at' .run .warming with hist := { (at' .run .warming).hist with stored := [record0 4, record0 5], reserved := some 6 } }

theorem witness_CollectionServesTheStore :
    (filled.power = .running ∧ (9 : Station) ≠ filled.own ∧ (255#8).toNat ≠ filled.own.val ∧
      (3#8).toNat = filled.own.val) ∧
    (after (.rxHget 9 3#8 0#8 0#32) filled).hist.reply.isSome = true ∧
    ((filled.heardFrom 9).hist.reply = none ∧ (filled.heardFrom 9).hist.piece = none ∧
      (filled.heardFrom 9).room 1) ∧
    (filled.hist.reserved = some (6#32).toNat ∧ filled.hist.reserved ≠ some (5#32).toNat ∧
      (∃ r ∈ filled.hist.stored, r.serial = (5#32).toNat) ∧ ∀ r ∈ filled.hist.stored, r.serial ≠ (7#32).toNat) ∧
    (at' .run .warming).hist.stored = [] ∧ 2 ≤ (2#8).toNat ∧ (filled.hist.stored.map (·.serial)).Nodup ∧
    ¬(withQueue filled five).room 1 := by
  unfold State.room
  decide

/-- A reply under way, its next piece not yet offered. -/
def replying (next : Nat) : State :=
  { filled with hist := { filled.hist with reply := some ⟨(record0 4).bytes, 4#16, 9, 5, next⟩ } }

theorem witness_PieceIsOffered :
    filled.hist.reply = none ∧
    ((replying 4).hist.reply.isSome = true ∧ (replying 4).hist.piece = none ∧ 4 < 5 ∧ (replying 4).room 1) ∧
    ¬(withQueue (replying 4) five).room 1 := by
  unfold State.room
  decide

theorem witness_QueryIsReported :
    (filled.power = .running ∧ (9 : Station) ≠ filled.own ∧ (255#8).toNat ≠ filled.own.val ∧
      (3#8).toNat = filled.own.val ∧ (filled.heardFrom 9).room 1) ∧
    ¬((withQueue filled five).heardFrom 9).room 1 := by
  unfold State.room
  decide

theorem witness_AccessSlotSendsLowestClass :
    (toClose.power = .running ∧ toClose.line.queue = []) ∧
    { toClose with line := { toClose.line with idle := false } }.line.idle = false ∧
    4 % 16 ≠ (toClose.own.val + 31 - toClose.line.lastSender.val) % 16 ∧
    (let s := withQueue toClose five;
      s.line.idle = true ∧ 3 % 16 = (s.own.val + 31 - s.line.lastSender.val) % 16 ∧
      19 % 16 = (s.own.val + 31 - s.line.lastSender.val) % 16 ∧
      (∀ e ∈ s.line.queue, e.inFlight = false) ∧ s.line.queue ≠ []) ∧
    ∃ e ∈ [flying .leave], e.inFlight = true := by decide

theorem witness_LineActivityIsJudged :
    State.reset.power = .off ∧ toClose.power ≠ .off ∧ (3 : Station) = toClose.own ∧
    (let s := { toClose with line := { toClose.line with errors := 15 } };
      s.line.errors < 255 ∧ (s.line.errors + 1) % 16 = 0) ∧
    (toClose.line.errors + 1) % 16 ≠ 0 ∧ 255 ≤ { toClose.line with errors := 255 }.errors := by decide

theorem witness_EchoTakenActs :
    inFlightOf toClose.line.queue = none ∧
    (inFlightOf [flying (.alert .config)] = some (flying (.alert .config)) ∧ (Msg.alert .config).cls = 3 ∧
      (Msg.alert .config).isHdata = false ∧ toClose.hist.reply = none ∧ (Msg.trip .stuck 2).cls = 0) ∧
    (let m := Msg.hdata 9 4#16 4 5 (List.replicate 9 0#8);
      m.isHdata = true ∧ 5 ≤ 5 ∧ (withQueue (replying 4) [flying m]).echoed.room 1 ∧ 4 < 5) ∧
    (let q := [flying (.raise 330), newEntry (.raise 340)];
      inFlightOf q = some ⟨.raise 330, 0, true⟩ ∧ ∃ e ∈ q, e.msg.isRaise = true ∧ e.inFlight = false) ∧
    (let q := [flying (.raise 330)];
      inFlightOf q = some ⟨.raise 330, 0, true⟩ ∧ ∀ e ∈ q, e.msg.isRaise = true → e.inFlight = true) ∧
    (controlled.share.raising = none ∧ (at' .cold .idle).mode = .cold ∧ controlled.mode = .run ∧
      { controlled.share with raising := some 330 }.raising = some 330) := by
  unfold State.room
  decide

theorem witness_OwnLiftEchoesMoveTheView :
    inFlightOf [flying (.ask 1#8)] = some ⟨.ask 1#8, 0, true⟩ ∧
    (inFlightOf [flying (.done 1#8 true)] = some ⟨.done 1#8 true, 0, true⟩ ∧
      (⟨viewed.own, 1#8⟩ : LiftEntry) ∈ viewed.lift.view ∧ (⟨viewed.own, 2#8⟩ : LiftEntry) ∉ viewed.lift.view ∧
      viewed.cycle.deferred = false) ∧
    (let s := withView heldHere [⟨3, 1#8⟩, ⟨5, 7#8⟩];
      (⟨s.own, 1#8⟩ : LiftEntry) ∈ s.lift.view ∧ (∀ e ∈ s.lift.view.erase ⟨s.own, 1#8⟩, e.station ≠ s.own) ∧
        s.hold = .hard ∧ s.cycle.st = .liftWait) ∧
    (let s := { viewed with cycle := { viewed.cycle with deferred := true } };
      s.ownEntry.isSome = true ∧ (∀ e ∈ s.lift.view.filter fun e => decide (e.station ≠ s.own), e.station ≠ s.own) ∧
      (∀ e ∈ s.lift.view.erase ⟨s.own, 1#8⟩, e.station ≠ s.own) ∧ s.cycle.deferred = true ∧
        s.cycle.st = .liftWait ∧ s.hold ≠ .hard) ∧
    (inFlightOf [flying (.drop 9 2#8)] = some ⟨.drop 9 2#8, 0, true⟩ ∧ viewed.lift.view.head? = some ⟨9, 2#8⟩ ∧
      (9 : Station) ≠ viewed.own ∧ viewed.lift.view.head? ≠ some ⟨9, 3#8⟩) ∧
    (inFlightOf [flying .leave] = some ⟨.leave, 0, true⟩ ∧ (at' .cold .idle).cycle.st ≠ .liftWait) := by decide

theorem witness_FailedEchoResendsOrDrops :
    inFlightOf toClose.line.queue = none ∧
    (let q := [⟨.raise 330, 1, true⟩, newEntry (.raise 340)];
      inFlightOf q = some ⟨.raise 330, 1, true⟩ ∧
      ∃ x ∈ q, x.inFlight = false ∧ x.msg.coalesces (.raise 330) = true) ∧
    (let q := [⟨.ask 1#8, 2, true⟩];
      inFlightOf q = some ⟨.ask 1#8, 2, true⟩ ∧
      (∀ x ∈ q, x.inFlight = false → x.msg.coalesces (.ask 1#8) = false) ∧ 3 ≤ 2 + 1 ∧ 1 + 1 < 3) ∧
    (let q := [⟨.drop 9 2#8, 2, true⟩];
      inFlightOf q = some ⟨.drop 9 2#8, 2, true⟩ ∧ q.length ≤ 12 ∧ viewed.lift.view.head? = some ⟨9, 2#8⟩) ∧
    (toClose.line.errors < 255 ∧ (toClose.line.errors + 1) % 16 ≠ 0 ∧ (15 + 1) % 16 = 0 ∧
      toClose.hist.reply = none ∧ toClose.hist.piece = none ∧ (Msg.hbusy 9).cls = 3) := by decide

end Sys2Proof.Tests
end

section
/-! PROOFS. The cure temperature and the dose increment (R22, R23, R57), settling O22. -/

namespace Sys2Proof.Machine

/-! ### The cure temperature -/

theorem Zone.counts_iff (z : Zone) :
    z.counts = true ↔ z.valid = true ∧ (z.state = .active ∨ z.state = .overheat) := by
  simp [Zone.counts]

/-- The counting zones among `zs`, in their order. -/
def State.counting (s : State) (zs : List ZoneId) : List ZoneId := zs.filter fun z => (s.zone z).counts

@[simp] theorem State.mem_counting (s : State) (zs : List ZoneId) (z : ZoneId) :
    z ∈ s.counting zs ↔ z ∈ zs ∧ (s.zone z).counts = true := List.mem_filter

theorem State.counting_eq_nil_iff (s : State) (zs : List ZoneId) :
    s.counting zs = [] ↔ ∀ z ∈ zs, ¬(s.zone z).counts = true := List.filter_eq_nil_iff

theorem mem_upperPlaten : ∀ z : ZoneId, z ∈ ([0, 1, 2, 3] : List ZoneId) ↔ z.val < 4 := by decide

theorem mem_lowerPlaten : ∀ z : ZoneId, z ∈ ([4, 5, 6, 7] : List ZoneId) ↔ 4 ≤ z.val := by decide

theorem mem_zoneIds : ∀ z : ZoneId, z ∈ zoneIds := by decide

/-- A fold of `min` that starts at the first element's own value is the minimum of the list. -/
theorem foldl_min_eq_min? (f : ZoneId → Int) (z : ZoneId) (zs : List ZoneId) :
    some ((z :: zs).foldl (fun t y => min t (f y)) (f z)) = ((z :: zs).map f).min? := by
  rw [List.foldl_cons, Int.min_self, List.map_cons, List.min?_cons', List.foldl_map]

/-- T_cure is the minimum over the counting zones of both platens, and is given where neither platen is without one. -/
theorem State.cureTemp_eq (s : State) :
    s.cureTemp = if s.counting [0, 1, 2, 3] = [] ∨ s.counting [4, 5, 6, 7] = [] then none
      else ((s.counting zoneIds).map fun z => (s.zone z).temp).min? := by
  have hall : s.counting zoneIds = s.counting [0, 1, 2, 3] ++ s.counting [4, 5, 6, 7] :=
    List.filter_append [0, 1, 2, 3] [4, 5, 6, 7]
  rw [hall]
  simp only [State.cureTemp, ← State.counting.eq_1]
  cases s.counting [0, 1, 2, 3] with
  | nil => simp
  | cons u us =>
    cases s.counting [4, 5, 6, 7] with
    | nil => simp
    | cons l ls =>
      rw [if_neg (by simp)]
      exact foldl_min_eq_min? (fun z => (s.zone z).temp) u (us ++ l :: ls)

/-- T_cure is missing exactly where a platen has no counting zone (R22). -/
theorem State.cureTemp_eq_none_iff (s : State) :
    s.cureTemp = none ↔ s.counting [0, 1, 2, 3] = [] ∨ s.counting [4, 5, 6, 7] = [] := by
  rw [s.cureTemp_eq]
  split
  case isTrue h => simp [h]
  case isFalse h =>
    have hne : s.counting zoneIds ≠ [] := fun he =>
      h (.inl ((s.counting_eq_nil_iff _).2 fun z _ => (s.counting_eq_nil_iff _).1 he z (mem_zoneIds z)))
    simp [h, hne]

/-- T_cure is the reading of a counting zone, and no counting zone reads less (R22). -/
theorem State.cureTemp_lowest {s : State} {t : Int} (h : s.cureTemp = some t) :
    (∃ z, (s.zone z).temp = t ∧ (s.zone z).counts = true) ∧ ∀ z, (s.zone z).counts = true → t ≤ (s.zone z).temp := by
  rw [s.cureTemp_eq] at h
  split at h
  case isTrue => cases h
  case isFalse =>
    obtain ⟨hmem, hle⟩ := List.min?_eq_some_iff.1 h
    obtain ⟨z, hz, ht⟩ := List.mem_map.1 hmem
    exact ⟨⟨z, ht, ((s.mem_counting _ z).1 hz).2⟩,
      fun y hy => hle _ (List.mem_map_of_mem ((s.mem_counting _ y).2 ⟨mem_zoneIds y, hy⟩))⟩

/-! ### The dose increment -/

theorem mantissa_eq_table : ∀ j ≤ 9,
    mantissa j = [1000, 1072, 1149, 1231, 1320, 1414, 1516, 1625, 1741, 1866].getD j 0 := by decide

theorem mantissa_le_succ : ∀ j ≤ 8, mantissa j ≤ mantissa (j + 1) := by decide

/-- Stage 8 of R23: the mantissa of `j` scaled by a power of two. -/
def scaledMantissa (q : Int) (j : Nat) : Nat :=
  if 0 ≤ q then mantissa j * 2 ^ q.toNat else mantissa j / 2 ^ (-q).toNat

theorem scaledMantissa_natCast (q j : Nat) : scaledMantissa q j = mantissa j * 2 ^ q := by
  simp [scaledMantissa]

theorem scaledMantissa_neg_natCast (q j : Nat) : scaledMantissa (-q) j = mantissa j / 2 ^ q := by
  cases q with
  | zero => simp [scaledMantissa]
  | succ n => rw [scaledMantissa, if_neg (by omega), Int.neg_neg, Int.toNat_natCast]

theorem scaledMantissa_le_of_mantissa_le (q : Int) {i j : Nat} (h : mantissa i ≤ mantissa j) :
    scaledMantissa q i ≤ scaledMantissa q j := by
  unfold scaledMantissa
  split
  · exact Nat.mul_le_mul_right _ h
  · exact Nat.div_le_div_right h

/-- The last value of one decade stays below the first of the next, since 1866 is below twice 1000. -/
theorem scaledMantissa_nine_le_succ (q : Int) : scaledMantissa q 9 ≤ scaledMantissa (q + 1) 0 := by
  cases q with
  | ofNat n =>
    rw [Int.ofNat_eq_natCast, ← Int.natCast_succ, scaledMantissa_natCast, scaledMantissa_natCast, Nat.pow_succ]
    simp only [mantissa]
    omega
  | negSucc n =>
    rw [show Int.negSucc n + 1 = -n by omega, Int.negSucc_eq, ← Int.natCast_succ, scaledMantissa_neg_natCast,
      scaledMantissa_neg_natCast]
    calc mantissa 9 / 2 ^ (n + 1) ≤ mantissa 0 * 2 / 2 ^ (n + 1) := Nat.div_le_div_right (by decide)
      _ = mantissa 0 / 2 ^ n := by rw [Nat.pow_succ, Nat.mul_div_mul_right _ _ (by decide)]

theorem doseIncrement_eq_zero {tCure tRef : Int} (h : tCure - tRef < -400) : doseIncrement tCure tRef = 0 := by
  simp [doseIncrement, h]

/-- Stages 4 to 8 of R23, from the digits of the difference. -/
theorem doseIncrement_eq_scaledMantissa {tCure tRef q : Int} {j r : Nat} (hj : j ≤ 9) (hr : r ≤ 9)
    (he : tCure - tRef = 100 * q + 10 * j + r) (hlo : -400 ≤ tCure - tRef) (hhi : tCure - tRef ≤ 400) :
    doseIncrement tCure tRef = scaledMantissa q j := by
  have hq : (tCure - tRef) / 100 = q := by omega
  have hd : ((tCure - tRef - 100 * q) / 10).toNat = j := by omega
  simp only [doseIncrement, if_neg (Int.not_lt.2 hlo), Int.min_eq_left hhi, hq, hd, scaledMantissa]

theorem doseIncrement_eq_max {tCure tRef : Int} (h : 400 ≤ tCure - tRef) : doseIncrement tCure tRef = 16000 := by
  simp [doseIncrement, show ¬tCure - tRef < -400 by omega, Int.min_eq_right h, mantissa]

/-- One step of 0.1 degC never lowers the increment: it leaves `j` and `q`, or raises `j`, or raises `q` from `j = 9`. -/
theorem doseIncrement_le_succ (tCure tRef : Int) : doseIncrement tCure tRef ≤ doseIncrement (tCure + 1) tRef := by
  by_cases hlo : tCure - tRef < -400
  · rw [doseIncrement_eq_zero hlo]
    exact Nat.zero_le _
  by_cases hhi : 400 ≤ tCure - tRef
  · exact Nat.le_of_eq ((doseIncrement_eq_max hhi).trans (doseIncrement_eq_max (by omega)).symm)
  obtain ⟨q, j, r, hj, hr, he⟩ : ∃ (q : Int) (j r : Nat), j ≤ 9 ∧ r ≤ 9 ∧ tCure - tRef = 100 * q + 10 * j + r :=
    ⟨(tCure - tRef) / 100, ((tCure - tRef) % 100 / 10).toNat, ((tCure - tRef) % 10).toNat, by omega, by omega, by omega⟩
  rw [doseIncrement_eq_scaledMantissa hj hr he (by omega) (by omega)]
  have next (q' : Int) (j' r' : Nat) (hj' : j' ≤ 9) (hr' : r' ≤ 9) (he' : tCure + 1 - tRef = 100 * q' + 10 * j' + r') :=
    doseIncrement_eq_scaledMantissa hj' hr' he' (by omega) (by omega)
  rcases Nat.lt_or_eq_of_le hr with hr | rfl
  · exact Nat.le_of_eq (next q j (r + 1) hj (by omega) (by omega)).symm
  rcases Nat.lt_or_eq_of_le hj with hj | rfl
  · rw [next q (j + 1) 0 (by omega) (by omega) (by omega)]
    exact scaledMantissa_le_of_mantissa_le q (mantissa_le_succ j (by omega))
  · rw [next (q + 1) 0 0 (by omega) (by omega) (by omega)]
    exact scaledMantissa_nine_le_succ q

theorem doseIncrement_le_add (tCure tRef : Int) (n : Nat) :
    doseIncrement tCure tRef ≤ doseIncrement (tCure + n) tRef := by
  induction n with
  | zero => exact Nat.le_of_eq (by rw [Int.natCast_zero, Int.add_zero])
  | succ n ih =>
    rw [Int.natCast_succ, ← Int.add_assoc]
    exact Nat.le_trans ih (doseIncrement_le_succ _ tRef)

/-- No increment exceeds that of 40.0 degC above the reference (R24). -/
theorem doseIncrement_le_max (tCure tRef : Int) : doseIncrement tCure tRef ≤ 16000 :=
  let n := (tRef + 400 - tCure).toNat
  calc doseIncrement tCure tRef ≤ doseIncrement (tCure + n) tRef := doseIncrement_le_add tCure tRef n
    _ = 16000 := doseIncrement_eq_max (by omega)

/-- Settles O22: T_cure is a minimum over a filtered list, and the increment is read off the digits of the difference. -/
theorem cureTempGivesTheIncrement : Obligations.CureTempGivesTheIncrement := by
  intro s tCure tRef
  refine ⟨?_, ?_, doseIncrement_eq_zero, fun h => doseIncrement_eq_max (Int.le_of_lt h), fun q j r hq hj hr => ⟨?_, ?_⟩,
    doseIncrement_le_succ tCure tRef, doseIncrement_le_max tCure tRef⟩
  · simp only [s.cureTemp_eq_none_iff, s.counting_eq_nil_iff, mem_upperPlaten, mem_lowerPlaten, Zone.counts_iff]
  · intro t ht
    obtain ⟨hsome, hle⟩ := State.cureTemp_lowest ht
    simp only [Zone.counts_iff] at hsome hle
    exact ⟨hsome, fun z hv hs => hle z ⟨hv, hs⟩⟩
  · intro he hhi
    rw [doseIncrement_eq_scaledMantissa hj hr he (by omega) hhi, scaledMantissa_natCast, mantissa_eq_table j hj]
  · intro he hq1
    rw [doseIncrement_eq_scaledMantissa (q := -q) hj hr (by omega) (by omega) (by omega), scaledMantissa_neg_natCast,
      mantissa_eq_table j hj]

end Sys2Proof.Machine
end

section
/-! PROOFS. Taking a frame of another station, and the report (R106, R159, R171, R197), settling O55. -/

namespace Sys2Proof.Machine

/-! ### A frame taken in full operation -/

theorem OnlyQueue.power {s t : State} (h : OnlyQueue s t) : t.power = s.power := by rw [h]

theorem OnlyQueue.own {s t : State} (h : OnlyQueue s t) : t.own = s.own := by rw [h]

/-- The shed test leaves the power state and the own number. -/
theorem shed_power_own (s : State) : s.shed.power = s.power ∧ s.shed.own = s.own := by
  have hclaim (c : Nat) : (s.setClaim c).scale.power = s.power ∧ (s.setClaim c).scale.own = s.own :=
    ⟨(setClaim_onlyQueue s c).power, (setClaim_onlyQueue s c).own⟩
  unfold State.shed
  dsimp only
  split
  case isTrue =>
    rw [(queueShare_onlyQueue _).power, (queueShare_onlyQueue _).own]
    split
    case isTrue =>
      rw [(setStarved_onlyQueue _ true).power, (setStarved_onlyQueue _ true).own]
      exact hclaim _
    case isFalse => exact hclaim _
  case isFalse => exact ⟨rfl, rfl⟩

/-- What a frame does before its content leaves the power state and the own number. -/
theorem heardFrom_power_own (s : State) (src : Station) :
    (s.heardFrom src).power = s.power ∧ (s.heardFrom src).own = s.own := by
  obtain ⟨hpower, hown⟩ := shed_power_own ((s.setReference src).freshen src).recount
  obtain ⟨-, -, -, -, -, -, -, rown, -, -, rpower, -⟩ := recount_fields ((s.setReference src).freshen src)
  exact ⟨hpower.trans rpower, hown.trans rown⟩

/-- A frame of another station that acts on the other blocks alone acts on the state that heard it (R106, R159). -/
theorem receive_of_running {s : State} {src : Station} (hp : s.power = .running) (hs : src ≠ s.own)
    (act : State → State) : s.receive src id id act = act (s.heardFrom src) := by
  have hoff : s.power ≠ .off := by simp [hp]
  have hrun : (s.heardFrom src).power = .running := (heardFrom_power_own s src).1.trans hp
  rw [State.receive, if_neg hoff]
  exact (if_neg hs).trans (if_pos hrun)

/-- Room for one entry of any class is room for one of class 3 (R164, R167). -/
theorem State.room_one_iff (s : State) : s.room 1 ↔ roomForClass3 s.line.queue = true := by
  simp only [roomForClass3, Bool.and_eq_true, decide_eq_true_eq]
  exact and_comm

/-! ### The bytes of REPORT (R197) -/

theorem modeCode_lt (m : Mode) : modeCode m < 4 := by cases m <;> decide

theorem cycleCode_lt (c : CycleState) : cycleCode c < 9 := by cases c <;> decide

theorem blockerCode_lt (b : Blocker) : blockerCode b < 5 := by cases b <;> decide

theorem buildCode_lt (b : BuildState) : buildCode b < 6 := by cases b <;> decide

/-- The first byte of REPORT: mode, starved state, staged charge and blocker (R197). -/
def State.statusByte (s : State) : Byte :=
  BitVec.ofNat 8 (modeCode s.mode + bitIf s.share.starved 4 + bitIf s.weigh.staged.isSome 8 +
    blockerCode s.cycle.blocker * 16)

/-- The third byte of REPORT: the BUILD state and its plies (R197). -/
def State.buildByte (s : State) : Byte :=
  BitVec.ofNat 8 (buildCode s.weigh.build.state + s.weigh.build.plies.length * 8)

/-- The REPORT payload byte by byte (R197). -/
theorem State.reportPayload_eq (s : State) :
    s.reportPayload = [s.statusByte, BitVec.ofNat 8 (cycleCode s.cycle.st), s.buildByte,
        BitVec.ofInt 8 ((s.weigh.latest - s.weigh.tare) / 65536),
        BitVec.ofInt 8 ((s.weigh.latest - s.weigh.tare) / 256),
        BitVec.ofInt 8 (s.weigh.latest - s.weigh.tare)] ++
      [BitVec.ofNat 8 (s.share.claim / 256), BitVec.ofNat 8 s.share.claim,
        (s.attn.raw >>> 8).setWidth 8, s.attn.raw.setWidth 8,
        BitVec.ofNat 8 s.hist.stored.length, BitVec.ofNat 8 s.hist.free] := by
  have hhigh : BitVec.ofNat 8 (s.attn.raw.toNat / 256) = (s.attn.raw >>> 8).setWidth 8 := by
    rw [← BitVec.ofNat_toNat, BitVec.toNat_ushiftRight, Nat.shiftRight_eq_div_pow]
  rw [State.reportPayload, beBytesInt_three, beBytes_two, beBytes_two, hhigh, BitVec.ofNat_toNat]
  rfl

theorem bitIf_eq (b : Bool) (value : Nat) : bitIf b value = b.toNat * value := by cases b <;> simp [bitIf]

theorem getLsbD_eq_of_toNat {x : Byte} {i : Nat} {b : Bool} (h : x.toNat / 2 ^ i % 2 = b.toNat) : x.getLsbD i = b := by
  rw [BitVec.getLsbD, Nat.testBit_eq_decide_div_mod_eq, h]
  cases b <;> rfl

/-- The fields of the first byte do not overlap (R197). -/
theorem State.statusByte_fields (s : State) :
    s.statusByte.toNat % 4 = modeCode s.mode ∧ s.statusByte.getLsbD 2 = s.share.starved ∧
    s.statusByte.getLsbD 3 = s.weigh.staged.isSome ∧ s.statusByte.toNat / 16 = blockerCode s.cycle.blocker := by
  have hm := modeCode_lt s.mode
  have hb := blockerCode_lt s.cycle.blocker
  have hstarved := s.share.starved.toNat_lt
  have hstaged := s.weigh.staged.isSome.toNat_lt
  have hvalue : s.statusByte.toNat = modeCode s.mode + s.share.starved.toNat * 4 +
      s.weigh.staged.isSome.toNat * 8 + blockerCode s.cycle.blocker * 16 := by
    rw [State.statusByte, BitVec.toNat_ofNat, bitIf_eq, bitIf_eq]
    omega
  refine ⟨?_, getLsbD_eq_of_toNat ?_, getLsbD_eq_of_toNat ?_, ?_⟩ <;> omega

/-- The third byte holds the BUILD state, and up to 24 plies beside it (R197). -/
theorem State.buildByte_fields (s : State) :
    s.buildByte.toNat % 8 = buildCode s.weigh.build.state ∧
    (s.weigh.build.plies.length ≤ 24 → s.buildByte.toNat / 8 = s.weigh.build.plies.length) := by
  have hb := buildCode_lt s.weigh.build.state
  rw [State.buildByte, BitVec.toNat_ofNat]
  omega

/-- Three bytes in two's complement carry every number of 24 bits (R196). -/
theorem threeBytes_toInt {x : Int} (hlow : -8388608 ≤ x) (hhigh : x < 8388608) :
    (BitVec.ofInt 8 (x / 65536) ++ BitVec.ofInt 8 (x / 256) ++ BitVec.ofInt 8 x).toInt = x := by
  have htop : (BitVec.ofInt 8 (x / 65536)).toInt = x / 65536 := by
    rw [BitVec.toInt_ofInt]
    exact Int.bmod_eq_of_le (by omega) (by omega)
  rw [BitVec.toInt_append, BitVec.toInt_append, htop, BitVec.toNat_ofInt, BitVec.toNat_ofInt]
  simp only [Nat.reduceAdd, Nat.reduceBEq, Nat.reducePow, Bool.false_eq_true, if_false]
  omega

/-! ### QUERY (R171) -/

theorem exec_rxQuery {s : State} {src : Station} (hp : s.power = .running) (hs : src ≠ s.own) (dst : Byte) :
    exec (.rxQuery src dst) s = .next (if dst.toNat = s.own.val then
      (s.heardFrom src).enqueue (.report src (s.heardFrom src).reportPayload) else s.heardFrom src) := by
  simp only [exec, execRxQuery, receive_of_running hp hs, addressedTo, (heardFrom_power_own s src).2, decide_eq_true_eq]

/-- Settles O55: the report is a class 3 message, queued in the state that heard the QUERY. -/
theorem queryIsReported : Obligations.QueryIsReported := by
  intro s src dst h hp hs hh
  refine ⟨fun hd => ?_, fun hd hroom => ?_, fun hd hroom => ?_⟩
  · rw [exec_rxQuery hp hs, if_neg hd, hh]
  · rw [exec_rxQuery hp hs, if_pos hd, ← hh, enqueue_class3 h _ rfl, if_neg (mt h.room_one_iff.2 hroom)]
  · obtain ⟨hmode, hstarved, hstaged, hblocker⟩ := h.statusByte_fields
    obtain ⟨hbuild, hplies⟩ := h.buildByte_fields
    have hcycle : (BitVec.ofNat 8 (cycleCode h.cycle.st)).toNat = cycleCode h.cycle.st :=
      Nat.mod_eq_of_lt (Nat.lt_trans (cycleCode_lt h.cycle.st) (by decide))
    refine ⟨_, _, _, _, _, _, _, ?_, rfl, hmode, hstarved, hstaged, hblocker, hcycle, hbuild, hplies,
      threeBytes_toInt⟩
    rw [exec_rxQuery hp hs, if_pos hd, ← hh, enqueue_class3 h _ rfl, if_pos (h.room_one_iff.1 hroom),
      h.reportPayload_eq]
    rfl

end Sys2Proof.Machine
end

section
/-! PROOFS. Sending in an own access slot (R160, R164, R165), settling O56: what the choice of R165 marks in the queue,
when a slot may send, and what ACCESS_SLOT then does. -/

namespace Sys2Proof.Machine

/-! ### The choice of R165 -/

/-- `r` is `q` with its oldest waiting entry of class `c` marked in flight at its place. -/
def OldestSent (c : Nat) (q r : List Entry) : Prop :=
  ∃ before e after, q = before ++ e :: after ∧ r = before ++ { e with inFlight := true } :: after ∧
    e.msg.cls = c ∧ ∀ x ∈ before, x.inFlight = false → x.msg.cls ≠ c

theorem sendOldest_oldestSent {c : Nat} {q r : List Entry} (h : sendOldest c q = some r) : OldestSent c q r := by
  induction q generalizing r with
  | nil => cases h
  | cons e es ih =>
    rw [sendOldest] at h
    split at h
    case isTrue hw =>
      cases h
      simp only [Bool.and_eq_true, beq_iff_eq] at hw
      exact ⟨[], e, es, rfl, rfl, hw.2, fun x hx => absurd hx List.not_mem_nil⟩
    case isFalse hw =>
      obtain ⟨rest, hrest, rfl⟩ := Option.map_eq_some_iff.1 h
      obtain ⟨before, x, after, rfl, rfl, hcls, hbefore⟩ := ih hrest
      have hfirst : e.inFlight = false → e.msg.cls ≠ c := fun hf hc => hw (by simp [hf, hc])
      exact ⟨e :: before, x, after, rfl, rfl, hcls, List.forall_mem_cons.2 ⟨hfirst, hbefore⟩⟩

theorem sendOldest_eq_none_iff (c : Nat) (q : List Entry) :
    sendOldest c q = none ↔ ∀ e ∈ q, e.inFlight = false → e.msg.cls ≠ c := by
  induction q with
  | nil => simp [sendOldest]
  | cons e es ih =>
    rw [sendOldest, List.forall_mem_cons, ← ih]
    split
    case isTrue hw => simp_all
    case isFalse hw => simp_all

/-- What is sent is the oldest of a class below which nothing waits (R165). -/
theorem sendNext_lowest {q r : List Entry} (h : sendNext q = some r) :
    ∃ c, OldestSent c q r ∧ ∀ e ∈ q, e.inFlight = false → c ≤ e.msg.cls := by
  have key (c : Nat) (hc : sendOldest c q = some r) (hlow : ∀ d < c, sendOldest d q = none) :
      ∃ c, OldestSent c q r ∧ ∀ e ∈ q, e.inFlight = false → c ≤ e.msg.cls :=
    ⟨c, sendOldest_oldestSent hc, fun e he hf => Nat.le_of_not_lt fun hlt =>
      (sendOldest_eq_none_iff _ q).1 (hlow _ hlt) e he hf rfl⟩
  simp only [sendNext, ← Option.or_eq_orElse, Option.or_eq_some_iff] at h
  rcases h with h0 | ⟨n0, h1 | ⟨n1, h2 | ⟨n2, h3⟩⟩⟩
  · exact key 0 h0 fun d hd => absurd hd d.not_lt_zero
  · exact key 1 h1 fun | 0, _ => n0
  · exact key 2 h2 fun | 0, _ => n0 | 1, _ => n1
  · exact key 3 h3 fun | 0, _ => n0 | 1, _ => n1 | 2, _ => n2

/-- Nothing is chosen exactly where no entry waits, the four classes being all (R164, R165). -/
theorem sendNext_eq_none_iff (q : List Entry) : sendNext q = none ↔ ∀ e ∈ q, e.inFlight = true := by
  simp only [sendNext, ← Option.or_eq_orElse, Option.or_eq_none_iff, sendOldest_eq_none_iff]
  constructor
  · intro ⟨h0, h1, h2, h3⟩ e he
    cases hf : e.inFlight with
    | true => rfl
    | false =>
      have hle := e.msg.cls_le
      have hne0 := h0 e he hf
      have hne1 := h1 e he hf
      have hne2 := h2 e he hf
      have hne3 := h3 e he hf
      omega
  · intro h
    have hclass (c : Nat) : ∀ e ∈ q, e.inFlight = false → e.msg.cls ≠ c := fun e he hf => by simp [h e he] at hf
    exact ⟨hclass 0, hclass 1, hclass 2, hclass 3⟩

/-! ### The slot -/

/-- A waiting entry may be sent in slot `k`: the line idle, the slot own, no frame in flight (R160, R165). -/
def State.mayEnter (s : State) (k : Nat) : Prop :=
  s.line.idle = true ∧ k % 16 = (s.own.val + 31 - s.line.lastSender.val) % 16 ∧ ∀ e ∈ s.line.queue, e.inFlight = false

theorem State.ownsSlot_iff (s : State) (k : Nat) :
    s.ownsSlot k = true ↔ k % 16 = (s.own.val + 31 - s.line.lastSender.val) % 16 := by
  have hown := s.own.isLt
  have hlast := s.line.lastSender.isLt
  simp only [State.ownsSlot, decide_eq_true_eq]
  omega

theorem inFlightOf_isNone_iff (q : List Entry) : (inFlightOf q).isNone = true ↔ ∀ e ∈ q, e.inFlight = false := by
  simp [inFlightOf]

theorem State.mayEnter_iff (s : State) (k : Nat) :
    (s.line.idle && s.ownsSlot k && (inFlightOf s.line.queue).isNone) = true ↔ s.mayEnter k := by
  rw [Bool.and_eq_true, Bool.and_eq_true, s.ownsSlot_iff, inFlightOf_isNone_iff, and_assoc, State.mayEnter]

theorem exec_accessSlot_of_not_mayEnter {s : State} {k : Nat} (hp : s.power = .running) (h : ¬s.mayEnter k) :
    exec (.accessSlot k) s = .next s := by
  rw [← s.mayEnter_iff] at h
  simp only [exec, execAccessSlot, State.whileRunning, if_pos hp, if_neg h]

theorem exec_accessSlot_of_mayEnter {s : State} {k : Nat} (hp : s.power = .running) (h : s.mayEnter k) :
    exec (.accessSlot k) s = .next ((sendNext s.line.queue).elim s fun q =>
      { s with line := { s.line with queue := q, idle := false } }) := by
  rw [← s.mayEnter_iff] at h
  simp only [exec, execAccessSlot, State.whileRunning, if_pos hp, if_pos h]
  cases sendNext s.line.queue <;> rfl

/-- Settles O56: an own slot on an idle line sends what R165 chooses, which exists wherever the queue is not empty. -/
theorem accessSlotSendsLowestClass : Obligations.AccessSlotSendsLowestClass := by
  intro s k hp
  constructor
  · intro hsilent
    by_cases hm : s.mayEnter k
    case neg => exact exec_accessSlot_of_not_mayEnter hp hm
    case pos =>
      have hnone : sendNext s.line.queue = none := by
        obtain ⟨hidle, hslot, hwait⟩ := hm
        rcases hsilent with h | h | ⟨e, he, hf⟩ | h
        · simp [hidle] at h
        · exact absurd hslot h
        · simp [hwait e he] at hf
        · simp [h, sendNext_eq_none_iff]
      rw [exec_accessSlot_of_mayEnter hp hm, hnone]
      rfl
  · intro hidle hslot hwait hne
    cases hsend : sendNext s.line.queue with
    | none =>
      obtain ⟨e, he⟩ := List.exists_mem_of_ne_nil _ hne
      have hf := (sendNext_eq_none_iff _).1 hsend e he
      simp [hwait e he] at hf
    | some r =>
      obtain ⟨c, ⟨before, e, after, hq, rfl, rfl, holdest⟩, hlow⟩ := sendNext_lowest hsend
      have hlowest : ∀ x ∈ s.line.queue, e.msg.cls ≤ x.msg.cls := fun x hx => hlow x hx (hwait x hx)
      have hin : ∀ x ∈ before, x ∈ s.line.queue := fun x hx => hq ▸ List.mem_append_left _ hx
      refine ⟨_, before, e, after, ?_, rfl, hq, hlowest, fun x hx => ?_⟩
      · rw [exec_accessSlot_of_mayEnter hp ⟨hidle, hslot, hwait⟩, hsend]
        rfl
      · exact Nat.lt_of_le_of_ne (hlowest x (hin x hx)) (holdest x hx (hwait x (hin x hx))).symm

end Sys2Proof.Machine
end
